-- ==== Sys2Proof/Word.lean ====
section
/-!
DEFINITION. The two word types of the block (spec 00_scope.md R13): bytes of the streams and the
32-bit words of commands, register values and event headers.
-/
namespace Sys2Proof

/-- One byte of a stream, or one RX symbol (R81). -/
abbrev Byte := BitVec 8

/-- A command word (R86), a register value (R33) or an event header (R92). -/
abbrev Word := BitVec 32

end Sys2Proof
end

