-- ==== Sys2Proof/Syntax.lean ====
section
/-!
DEFINITION. The items the block takes on its ports (30_encoding.md section 1) and `Instr`, one
constructor per row of spec/opcode_table.json, in the table's order.
-/
namespace Sys2Proof

/-- FrameKind (R84). The codes 8 to 15 are "never held by any state variable", so they have no
constructor; the numeric codes are `kindCode`. -/
inductive FrameKind where
  | none
  | voice
  | text
  | video
  | data
  | callsign
  | repeaterInfo
  | endOfTx
  deriving DecidableEq, Repr

/-- The six kinds a FRAME or BULK command may name (R88). -/
inductive TxKind where
  | voice
  | text
  | video
  | data
  | callsign
  | repinfo
  deriving DecidableEq, Repr

/-- What a command word decodes to, its LEN aside (R104). -/
inductive TxCmd where
  | nop
  | frame (k : TxKind)
  | bulk (k : TxKind)
  | preamble
  | endMarker
  | illegal
  deriving DecidableEq, Repr

/-- A host register index, sorted as the table sorts it (R33, R44): the ten registers, and the
reserved ranges, each with the index bits the table leaves open. -/
inductive HostReg where
  | ctrl
  | rxProfile
  | txProfile
  | status
  | diag
  | bitIndex
  | shiftReg
  | errInfo
  | rxGeom
  | txGeom
  | reserved0A0B (x : BitVec 1)
  | reserved0C0F (x : BitVec 2)
  | reserved101F (x : BitVec 4)
  | reserved203F (x : BitVec 5)
  | reserved407F (x : BitVec 6)
  | reserved80FF (x : BitVec 7)
  deriving DecidableEq, Repr

/-- One operation the host performs: a register access of 9 bits `dir[8] ++ idx[7:0]` with its data
word (R98), or a stream operation (R239). The data word of a read is the value returned, so a read
does not look at it. -/
inductive HostOp where
  | access (w : BitVec 9) (data : Word)
  | pushc (c : Word)
  | pushb (b : Byte)
  | pope
  deriving DecidableEq, Repr

/-- One item on an input port (R80): an RX symbol, a command word, or a host operation. -/
inductive Item where
  | rxsym (sym : Byte)
  | cmd (c : Word)
  | host (op : HostOp)
  deriving DecidableEq, Repr

/-- The operations of the block, one per row of the opcode table. `len` is CMD LEN (bits 23:0),
`kind` is CMD KIND (bits 27:24) where the row leaves it open, `x` the index bits a reserved range
leaves open, and `v` the data word of a write. -/
inductive Instr where
  -- format RXSYM (R81)
  | observeBit (sym : Byte)
  -- format CMD (R86, R87)
  | nop (kind : BitVec 4) (len : BitVec 24)
  | frameVoice (len : BitVec 24)
  | frameText (len : BitVec 24)
  | frameVideo (len : BitVec 24)
  | frameData (len : BitVec 24)
  | frameCallsign (len : BitVec 24)
  | frameRepinfo (len : BitVec 24)
  | bulkVoice (len : BitVec 24)
  | bulkText (len : BitVec 24)
  | bulkVideo (len : BitVec 24)
  | bulkData (len : BitVec 24)
  | bulkCallsign (len : BitVec 24)
  | bulkRepinfo (len : BitVec 24)
  | preamble
  | endMarker
  | illegalFrameKind0 (len : BitVec 24)
  | illegalFrameKind7 (len : BitVec 24)
  | illegalFrameKind8 (len : BitVec 24)
  | illegalFrameKind9 (len : BitVec 24)
  | illegalFrameKindA (len : BitVec 24)
  | illegalFrameKindB (len : BitVec 24)
  | illegalFrameKindC (len : BitVec 24)
  | illegalFrameKindD (len : BitVec 24)
  | illegalFrameKindE (len : BitVec 24)
  | illegalFrameKindF (len : BitVec 24)
  | illegalBulkKind0 (len : BitVec 24)
  | illegalBulkKind7 (len : BitVec 24)
  | illegalBulkKind8 (len : BitVec 24)
  | illegalBulkKind9 (len : BitVec 24)
  | illegalBulkKindA (len : BitVec 24)
  | illegalBulkKindB (len : BitVec 24)
  | illegalBulkKindC (len : BitVec 24)
  | illegalBulkKindD (len : BitVec 24)
  | illegalBulkKindE (len : BitVec 24)
  | illegalBulkKindF (len : BitVec 24)
  | illegalPreamble (kind : BitVec 4) (len : BitVec 24)
  | illegalEndMarker (kind : BitVec 4) (len : BitVec 24)
  | illegalOp5 (kind : BitVec 4) (len : BitVec 24)
  | illegalOp6 (kind : BitVec 4) (len : BitVec 24)
  | illegalOp7 (kind : BitVec 4) (len : BitVec 24)
  | illegalOp8 (kind : BitVec 4) (len : BitVec 24)
  | illegalOp9 (kind : BitVec 4) (len : BitVec 24)
  | illegalOpA (kind : BitVec 4) (len : BitVec 24)
  | illegalOpB (kind : BitVec 4) (len : BitVec 24)
  | illegalOpC (kind : BitVec 4) (len : BitVec 24)
  | illegalOpD (kind : BitVec 4) (len : BitVec 24)
  | illegalOpE (kind : BitVec 4) (len : BitVec 24)
  | illegalOpF (kind : BitVec 4) (len : BitVec 24)
  -- format HOST (R98)
  | rdCtrl
  | rdRxProfile
  | rdTxProfile
  | rdStatus
  | rdDiag
  | rdBitIndex
  | rdShiftReg
  | rdErrInfo
  | rdRxGeom
  | rdTxGeom
  | wrCtrl (v : Word)
  | wrRxProfile (v : Word)
  | wrTxProfile (v : Word)
  | wrStatus (v : Word)
  | wrDiag (v : Word)
  | wrBitIndex (v : Word)
  | wrShiftReg (v : Word)
  | wrErrInfo (v : Word)
  | wrRxGeom (v : Word)
  | wrTxGeom (v : Word)
  | rdReserved0A0B (x : BitVec 1)
  | rdReserved0C0F (x : BitVec 2)
  | rdReserved101F (x : BitVec 4)
  | rdReserved203F (x : BitVec 5)
  | rdReserved407F (x : BitVec 6)
  | rdReserved80FF (x : BitVec 7)
  | wrReserved0A0B (x : BitVec 1) (v : Word)
  | wrReserved0C0F (x : BitVec 2) (v : Word)
  | wrReserved101F (x : BitVec 4) (v : Word)
  | wrReserved203F (x : BitVec 5) (v : Word)
  | wrReserved407F (x : BitVec 6) (v : Word)
  | wrReserved80FF (x : BitVec 7) (v : Word)
  -- format HOST-STREAM (R239)
  | pushc (c : Word)
  | pushb (b : Byte)
  | pope
  deriving DecidableEq, Repr

end Sys2Proof
end

