-- ==== Sys2Proof/WellFormed.lean ====
section
/-!
DEFINITION. Which terms of `Instr` are instructions of the table: all of them, except that the two
rows ILLEGAL.PREAMBLE and ILLEGAL.END_MARKER hold "every word with OP = 0x3 (0x4) except 0x30000000
(0x40000000)", so their KIND and LEN are not both zero (R88, R90).
-/
namespace Sys2Proof

/-- The term stands for a row of the opcode table (R88, R90). -/
def Instr.wellFormed : Instr → Bool
  | .illegalPreamble kind len => !(kind == 0 && len == 0)
  | .illegalEndMarker kind len => !(kind == 0 && len == 0)
  | .observeBit _ | .nop _ _ | .frameVoice _ | .frameText _ | .frameVideo _ | .frameData _
  | .frameCallsign _ | .frameRepinfo _ | .bulkVoice _ | .bulkText _ | .bulkVideo _
  | .bulkData _ | .bulkCallsign _ | .bulkRepinfo _ | .preamble | .endMarker
  | .illegalFrameKind0 _ | .illegalFrameKind7 _ | .illegalFrameKind8 _ | .illegalFrameKind9 _
  | .illegalFrameKindA _ | .illegalFrameKindB _ | .illegalFrameKindC _ | .illegalFrameKindD _
  | .illegalFrameKindE _ | .illegalFrameKindF _ | .illegalBulkKind0 _ | .illegalBulkKind7 _
  | .illegalBulkKind8 _ | .illegalBulkKind9 _ | .illegalBulkKindA _ | .illegalBulkKindB _
  | .illegalBulkKindC _ | .illegalBulkKindD _ | .illegalBulkKindE _ | .illegalBulkKindF _
  | .illegalOp5 _ _ | .illegalOp6 _ _ | .illegalOp7 _ _ | .illegalOp8 _ _ | .illegalOp9 _ _
  | .illegalOpA _ _ | .illegalOpB _ _ | .illegalOpC _ _ | .illegalOpD _ _ | .illegalOpE _ _
  | .illegalOpF _ _ | .rdCtrl | .rdRxProfile | .rdTxProfile | .rdStatus | .rdDiag | .rdBitIndex
  | .rdShiftReg | .rdErrInfo | .rdRxGeom | .rdTxGeom | .wrCtrl _ | .wrRxProfile _
  | .wrTxProfile _ | .wrStatus _ | .wrDiag _ | .wrBitIndex _ | .wrShiftReg _ | .wrErrInfo _
  | .wrRxGeom _ | .wrTxGeom _ | .rdReserved0A0B _ | .rdReserved0C0F _ | .rdReserved101F _
  | .rdReserved203F _ | .rdReserved407F _ | .rdReserved80FF _ | .wrReserved0A0B _ _
  | .wrReserved0C0F _ _ | .wrReserved101F _ _ | .wrReserved203F _ _ | .wrReserved407F _ _
  | .wrReserved80FF _ _ | .pushc _ | .pushb _ | .pope => true

end Sys2Proof
end

