-- ==== Sys2Proof/Decode.lean ====
section
/-!
DEFINITION. Decoding of every port item (30_encoding.md R81, R82, R98, R99, R104), the sorting of a
raw width and number into an item, and after it the encoder, from the same tables.
-/
namespace Sys2Proof

/-- The value `x` placed in a 32-bit word with its bit 0 at bit `lo` (R13). -/
def fieldAt {w : Nat} (lo : Nat) (x : BitVec w) : Word := x.setWidth 32 <<< lo

/-- The command word: OP at 31:28, KIND at 27:24, LEN at 23:0 (R86). -/
def commandWord (op kind : BitVec 4) (len : BitVec 24) : Word :=
  fieldAt 28 op ||| fieldAt 24 kind ||| fieldAt 0 len

/-- CMD OP, bits 31:28 (R86). -/
def opOf (c : Word) : BitVec 4 := c.extractLsb' 28 4

/-- CMD KIND, bits 27:24 (R86). -/
def kindOf (c : Word) : BitVec 4 := c.extractLsb' 24 4

/-- CMD LEN, bits 23:0: a 24-bit unsigned count, not scaled (R86, R89). -/
def lenOf (c : Word) : BitVec 24 := c.extractLsb' 0 24

/-- The KIND codes FRAME and BULK accept, 1 to 6 (R84, R88). -/
def TxKind.ofCode (k : BitVec 4) : Option TxKind :=
  match k.toNat with
  | 1 => some .voice
  | 2 => some .text
  | 3 => some .video
  | 4 => some .data
  | 5 => some .callsign
  | 6 => some .repinfo
  | _ => none

/-- `decode` of a command word, on its three fields (R104). -/
def TxCmd.ofFields (op kind : BitVec 4) (len : BitVec 24) : TxCmd :=
  match op.toNat with
  | 0x0 => .nop
  | 0x1 => ((TxKind.ofCode kind).map TxCmd.frame).getD .illegal
  | 0x2 => ((TxKind.ofCode kind).map TxCmd.bulk).getD .illegal
  | 0x3 => if kind = 0 ∧ len = 0 then .preamble else .illegal
  | 0x4 => if kind = 0 ∧ len = 0 then .endMarker else .illegal
  | _ => .illegal

/-- `decode(c)` of R104: what the TX engine runs for a command word. -/
def TxCmd.ofWord (c : Word) : TxCmd := TxCmd.ofFields (opOf c) (kindOf c) (lenOf c)

/-- The table row of a FRAME word, by its KIND (R88, R90). -/
def frameRow (kind : BitVec 4) (len : BitVec 24) : Instr :=
  match kind.toNat with
  | 1 => .frameVoice len
  | 2 => .frameText len
  | 3 => .frameVideo len
  | 4 => .frameData len
  | 5 => .frameCallsign len
  | 6 => .frameRepinfo len
  | 0 => .illegalFrameKind0 len
  | 0x7 => .illegalFrameKind7 len
  | 0x8 => .illegalFrameKind8 len
  | 0x9 => .illegalFrameKind9 len
  | 0xA => .illegalFrameKindA len
  | 0xB => .illegalFrameKindB len
  | 0xC => .illegalFrameKindC len
  | 0xD => .illegalFrameKindD len
  | 0xE => .illegalFrameKindE len
  | _ => .illegalFrameKindF len

/-- The table row of a BULK word, by its KIND (R88, R90). -/
def bulkRow (kind : BitVec 4) (len : BitVec 24) : Instr :=
  match kind.toNat with
  | 1 => .bulkVoice len
  | 2 => .bulkText len
  | 3 => .bulkVideo len
  | 4 => .bulkData len
  | 5 => .bulkCallsign len
  | 6 => .bulkRepinfo len
  | 0 => .illegalBulkKind0 len
  | 0x7 => .illegalBulkKind7 len
  | 0x8 => .illegalBulkKind8 len
  | 0x9 => .illegalBulkKind9 len
  | 0xA => .illegalBulkKindA len
  | 0xB => .illegalBulkKindB len
  | 0xC => .illegalBulkKindC len
  | 0xD => .illegalBulkKindD len
  | 0xE => .illegalBulkKindE len
  | _ => .illegalBulkKindF len

/-- The table row of a command word, by OP (R87, R88, R90, R91). -/
def commandRow (op kind : BitVec 4) (len : BitVec 24) : Instr :=
  match op.toNat with
  | 0x0 => .nop kind len
  | 0x1 => frameRow kind len
  | 0x2 => bulkRow kind len
  | 0x3 => if kind = 0 ∧ len = 0 then .preamble else .illegalPreamble kind len
  | 0x4 => if kind = 0 ∧ len = 0 then .endMarker else .illegalEndMarker kind len
  | 0x5 => .illegalOp5 kind len
  | 0x6 => .illegalOp6 kind len
  | 0x7 => .illegalOp7 kind len
  | 0x8 => .illegalOp8 kind len
  | 0x9 => .illegalOp9 kind len
  | 0xA => .illegalOpA kind len
  | 0xB => .illegalOpB kind len
  | 0xC => .illegalOpC kind len
  | 0xD => .illegalOpD kind len
  | 0xE => .illegalOpE kind len
  | _ => .illegalOpF kind len

/-- A command word as an instruction; every 32-bit word is one row (R104). -/
def decodeCommand (c : Word) : Instr := commandRow (opOf c) (kindOf c) (lenOf c)

/-- The register an 8-bit index selects (R33, R44). -/
def HostReg.ofIndex (idx : BitVec 8) : HostReg :=
  match idx.toNat with
  | 0 => .ctrl
  | 1 => .rxProfile
  | 2 => .txProfile
  | 3 => .status
  | 4 => .diag
  | 5 => .bitIndex
  | 6 => .shiftReg
  | 7 => .errInfo
  | 8 => .rxGeom
  | 9 => .txGeom
  | n =>
    if n < 0x0C then .reserved0A0B (idx.extractLsb' 0 1)
    else if n < 0x10 then .reserved0C0F (idx.extractLsb' 0 2)
    else if n < 0x20 then .reserved101F (idx.extractLsb' 0 4)
    else if n < 0x40 then .reserved203F (idx.extractLsb' 0 5)
    else if n < 0x80 then .reserved407F (idx.extractLsb' 0 6)
    else .reserved80FF (idx.extractLsb' 0 7)

/-- A register read as an instruction (R98, R230). -/
def readRow : HostReg → Instr
  | .ctrl => .rdCtrl
  | .rxProfile => .rdRxProfile
  | .txProfile => .rdTxProfile
  | .status => .rdStatus
  | .diag => .rdDiag
  | .bitIndex => .rdBitIndex
  | .shiftReg => .rdShiftReg
  | .errInfo => .rdErrInfo
  | .rxGeom => .rdRxGeom
  | .txGeom => .rdTxGeom
  | .reserved0A0B x => .rdReserved0A0B x
  | .reserved0C0F x => .rdReserved0C0F x
  | .reserved101F x => .rdReserved101F x
  | .reserved203F x => .rdReserved203F x
  | .reserved407F x => .rdReserved407F x
  | .reserved80FF x => .rdReserved80FF x

/-- A register write as an instruction (R98, R231). -/
def writeRow (v : Word) : HostReg → Instr
  | .ctrl => .wrCtrl v
  | .rxProfile => .wrRxProfile v
  | .txProfile => .wrTxProfile v
  | .status => .wrStatus v
  | .diag => .wrDiag v
  | .bitIndex => .wrBitIndex v
  | .shiftReg => .wrShiftReg v
  | .errInfo => .wrErrInfo v
  | .rxGeom => .wrRxGeom v
  | .txGeom => .wrTxGeom v
  | .reserved0A0B x => .wrReserved0A0B x v
  | .reserved0C0F x => .wrReserved0C0F x v
  | .reserved101F x => .wrReserved101F x v
  | .reserved203F x => .wrReserved203F x v
  | .reserved407F x => .wrReserved407F x v
  | .reserved80FF x => .wrReserved80FF x v

/-- A register access as an instruction: bit 8 is the direction, 1 for a write (R98). -/
def decodeAccess (w : BitVec 9) (data : Word) : Instr :=
  if w.getLsbD 8 then writeRow data (HostReg.ofIndex (w.extractLsb' 0 8))
  else readRow (HostReg.ofIndex (w.extractLsb' 0 8))

/-- Decoding of a host operation (R98, R239). -/
def decodeHost : HostOp → Instr
  | .access w data => decodeAccess w data
  | .pushc c => .pushc c
  | .pushb b => .pushb b
  | .pope => .pope

/-- Decoding of any port item; no item is refused (R82, R99, R104). -/
def decode : Item → Instr
  | .rxsym sym => .observeBit sym
  | .cmd c => decodeCommand c
  | .host op => decodeHost op

/-- Why a raw number is no item: no input format has that many bits, or it has bits set above its
format's width (R80, R99: "No format has a length other than these"). -/
inductive DecodeReject where
  | noFormatOfThisWidth (nbits : Nat)
  | bitsAboveTheFormat (nbits w : Nat)
  deriving DecidableEq, Repr

/-- The input item a raw number of `nbits` bits stands for, sorted by width alone (R80): 8 bits an
RX symbol, 32 bits a command word, 9 or 16 bits an access word with data 0, 41 or 48 bits an access
word with its data word above it (assumption 10). The host's stream operations have no width of
their own: PUSHB shares 8 bits with RXSYM, and PUSHC and POPE share 32 bits with CMD. -/
def itemOfBits (nbits w : Nat) : Except DecodeReject Item :=
  if nbits = 8 then
    if w < 2 ^ 8 then .ok (.rxsym (BitVec.ofNat 8 w)) else .error (.bitsAboveTheFormat nbits w)
  else if nbits = 32 then
    if w < 2 ^ 32 then .ok (.cmd (BitVec.ofNat 32 w)) else .error (.bitsAboveTheFormat nbits w)
  else if nbits = 9 ∨ nbits = 16 then
    if w < 2 ^ 9 then .ok (.host (.access (BitVec.ofNat 9 w) 0))
    else .error (.bitsAboveTheFormat nbits w)
  else if nbits = 41 then
    if w < 2 ^ 41 then .ok (.host (.access (BitVec.ofNat 9 w) (BitVec.ofNat 32 (w / 2 ^ 9))))
    else .error (.bitsAboveTheFormat nbits w)
  else if nbits = 48 then
    if w < 2 ^ 48 ∧ w % 2 ^ 16 < 2 ^ 9 then
      .ok (.host (.access (BitVec.ofNat 9 w) (BitVec.ofNat 32 (w / 2 ^ 16))))
    else .error (.bitsAboveTheFormat nbits w)
  else .error (.noFormatOfThisWidth nbits)

/-- The instruction of a raw number of `nbits` bits, or why there is none. -/
def decodeBits (nbits w : Nat) : Except DecodeReject Instr :=
  match itemOfBits nbits w with
  | .ok it => .ok (decode it)
  | .error r => .error r

/-- The decoder's answer on one word of the opcode table, bit 0 the least significant. -/
def decodeTableWord (nbits w : Nat) : Option Instr :=
  match decodeBits nbits w with
  | .ok i => some i
  | .error _ => none

/-! The encoder. -/

/-- The 8-bit index of a register (R33, R44). -/
def HostReg.index : HostReg → BitVec 8
  | .ctrl => 0x00
  | .rxProfile => 0x01
  | .txProfile => 0x02
  | .status => 0x03
  | .diag => 0x04
  | .bitIndex => 0x05
  | .shiftReg => 0x06
  | .errInfo => 0x07
  | .rxGeom => 0x08
  | .txGeom => 0x09
  | .reserved0A0B x => 5#7 ++ x
  | .reserved0C0F x => 3#6 ++ x
  | .reserved101F x => 1#4 ++ x
  | .reserved203F x => 1#3 ++ x
  | .reserved407F x => 1#2 ++ x
  | .reserved80FF x => 1#1 ++ x

/-- The access item of a read: direction bit 0; the data word is the value returned, 0 here (R98). -/
def encodeRead (r : HostReg) : Item := .host (.access (0#1 ++ r.index) 0)

/-- The access item of a write: direction bit 1 (R98). -/
def encodeWrite (r : HostReg) (v : Word) : Item := .host (.access (1#1 ++ r.index) v)

/-- The item that stands for an instruction (R81, R86 to R91, R98, R239). -/
def encode : Instr → Item
  | .observeBit sym => .rxsym sym
  | .nop kind len => .cmd (commandWord 0x0 kind len)
  | .frameVoice len => .cmd (commandWord 0x1 0x1 len)
  | .frameText len => .cmd (commandWord 0x1 0x2 len)
  | .frameVideo len => .cmd (commandWord 0x1 0x3 len)
  | .frameData len => .cmd (commandWord 0x1 0x4 len)
  | .frameCallsign len => .cmd (commandWord 0x1 0x5 len)
  | .frameRepinfo len => .cmd (commandWord 0x1 0x6 len)
  | .bulkVoice len => .cmd (commandWord 0x2 0x1 len)
  | .bulkText len => .cmd (commandWord 0x2 0x2 len)
  | .bulkVideo len => .cmd (commandWord 0x2 0x3 len)
  | .bulkData len => .cmd (commandWord 0x2 0x4 len)
  | .bulkCallsign len => .cmd (commandWord 0x2 0x5 len)
  | .bulkRepinfo len => .cmd (commandWord 0x2 0x6 len)
  | .preamble => .cmd (commandWord 0x3 0x0 0)
  | .endMarker => .cmd (commandWord 0x4 0x0 0)
  | .illegalFrameKind0 len => .cmd (commandWord 0x1 0x0 len)
  | .illegalFrameKind7 len => .cmd (commandWord 0x1 0x7 len)
  | .illegalFrameKind8 len => .cmd (commandWord 0x1 0x8 len)
  | .illegalFrameKind9 len => .cmd (commandWord 0x1 0x9 len)
  | .illegalFrameKindA len => .cmd (commandWord 0x1 0xA len)
  | .illegalFrameKindB len => .cmd (commandWord 0x1 0xB len)
  | .illegalFrameKindC len => .cmd (commandWord 0x1 0xC len)
  | .illegalFrameKindD len => .cmd (commandWord 0x1 0xD len)
  | .illegalFrameKindE len => .cmd (commandWord 0x1 0xE len)
  | .illegalFrameKindF len => .cmd (commandWord 0x1 0xF len)
  | .illegalBulkKind0 len => .cmd (commandWord 0x2 0x0 len)
  | .illegalBulkKind7 len => .cmd (commandWord 0x2 0x7 len)
  | .illegalBulkKind8 len => .cmd (commandWord 0x2 0x8 len)
  | .illegalBulkKind9 len => .cmd (commandWord 0x2 0x9 len)
  | .illegalBulkKindA len => .cmd (commandWord 0x2 0xA len)
  | .illegalBulkKindB len => .cmd (commandWord 0x2 0xB len)
  | .illegalBulkKindC len => .cmd (commandWord 0x2 0xC len)
  | .illegalBulkKindD len => .cmd (commandWord 0x2 0xD len)
  | .illegalBulkKindE len => .cmd (commandWord 0x2 0xE len)
  | .illegalBulkKindF len => .cmd (commandWord 0x2 0xF len)
  | .illegalPreamble kind len => .cmd (commandWord 0x3 kind len)
  | .illegalEndMarker kind len => .cmd (commandWord 0x4 kind len)
  | .illegalOp5 kind len => .cmd (commandWord 0x5 kind len)
  | .illegalOp6 kind len => .cmd (commandWord 0x6 kind len)
  | .illegalOp7 kind len => .cmd (commandWord 0x7 kind len)
  | .illegalOp8 kind len => .cmd (commandWord 0x8 kind len)
  | .illegalOp9 kind len => .cmd (commandWord 0x9 kind len)
  | .illegalOpA kind len => .cmd (commandWord 0xA kind len)
  | .illegalOpB kind len => .cmd (commandWord 0xB kind len)
  | .illegalOpC kind len => .cmd (commandWord 0xC kind len)
  | .illegalOpD kind len => .cmd (commandWord 0xD kind len)
  | .illegalOpE kind len => .cmd (commandWord 0xE kind len)
  | .illegalOpF kind len => .cmd (commandWord 0xF kind len)
  | .rdCtrl => encodeRead .ctrl
  | .rdRxProfile => encodeRead .rxProfile
  | .rdTxProfile => encodeRead .txProfile
  | .rdStatus => encodeRead .status
  | .rdDiag => encodeRead .diag
  | .rdBitIndex => encodeRead .bitIndex
  | .rdShiftReg => encodeRead .shiftReg
  | .rdErrInfo => encodeRead .errInfo
  | .rdRxGeom => encodeRead .rxGeom
  | .rdTxGeom => encodeRead .txGeom
  | .wrCtrl v => encodeWrite .ctrl v
  | .wrRxProfile v => encodeWrite .rxProfile v
  | .wrTxProfile v => encodeWrite .txProfile v
  | .wrStatus v => encodeWrite .status v
  | .wrDiag v => encodeWrite .diag v
  | .wrBitIndex v => encodeWrite .bitIndex v
  | .wrShiftReg v => encodeWrite .shiftReg v
  | .wrErrInfo v => encodeWrite .errInfo v
  | .wrRxGeom v => encodeWrite .rxGeom v
  | .wrTxGeom v => encodeWrite .txGeom v
  | .rdReserved0A0B x => encodeRead (.reserved0A0B x)
  | .rdReserved0C0F x => encodeRead (.reserved0C0F x)
  | .rdReserved101F x => encodeRead (.reserved101F x)
  | .rdReserved203F x => encodeRead (.reserved203F x)
  | .rdReserved407F x => encodeRead (.reserved407F x)
  | .rdReserved80FF x => encodeRead (.reserved80FF x)
  | .wrReserved0A0B x v => encodeWrite (.reserved0A0B x) v
  | .wrReserved0C0F x v => encodeWrite (.reserved0C0F x) v
  | .wrReserved101F x v => encodeWrite (.reserved101F x) v
  | .wrReserved203F x v => encodeWrite (.reserved203F x) v
  | .wrReserved407F x v => encodeWrite (.reserved407F x) v
  | .wrReserved80FF x v => encodeWrite (.reserved80FF x) v
  | .pushc c => .host (.pushc c)
  | .pushb b => .host (.pushb b)
  | .pope => .host .pope

end Sys2Proof
end

