-- ==== Sys2Proof/Config.lean ====
section
/-!
DEFINITION. What one build of the block fixes (R8 to R12, R32) and the one free value (R25).
The build parameters are plain data carried by the state, so that a claim over every state is a
claim over every build; `Config.defaultBuild` is the build of `State.reset`.
-/
namespace Sys2Proof

/-- The sync-pattern family of a profile (R11, R18). -/
inductive Family where
  /-- the 8-bit-sync profile -/
  | f8
  /-- the 16/24-bit family -/
  | std
  /-- the data/end-only high-order profiles -/
  | high
  deriving DecidableEq, Repr

/-- One entry of PROFILES (R11). -/
structure Profile where
  payloadBytes : Nat
  family : Family
  deriving DecidableEq, Repr

/-- The build-time parameters (R10, R11, R32). -/
structure Build where
  profiles : List Profile
  evtDepth : Nat
  cmdDepth : Nat
  payDepth : Nat
  deriving DecidableEq, Repr

/-- The default profile table (R12). -/
def Config.defaultProfiles : List Profile :=
  [⟨4, .f8⟩, ⟨7, .std⟩, ⟨47, .std⟩, ⟨1516, .high⟩, ⟨3122, .high⟩]

/-- The build of `State.reset`. The table is R12's; the three depths are parameters of the spec
(R10, R32), and 16, 16 and 64 are a DESIGN CHOICE (assumption 8). -/
def Config.defaultBuild : Build :=
  { profiles := Config.defaultProfiles, evtDepth := 16, cmdDepth := 16, payDepth := 64 }

/-- FREE VALUE (assumption 6): what a cell of BitBuf that nothing has written since reset reads as.
R25: "Its value after reset is unspecified and unobservable." -/
opaque Config.bitBufAny : Nat → Bool

end Sys2Proof
end

