-- ==== Sys2Proof/Machine/State.lean ====
section
/-!
DEFINITION. The machine's state as plain data, in the groups the spec names (10_state.md): the RX
engine's tuple (R20), the TX engine (R31, R32), the control and status fields (R34, R37, R41), the
build parameters (R10, R11, R32), and the agents outside the block (R7); the ways a step can stop;
and the state after reset (R48).
-/
namespace Sys2Proof.Machine

open Sys2Proof

/-- Event codes (R93). The codes 0x0 and 0xC to 0xF are "never emitted", so they have no
constructor. -/
inductive EventCode where
  | controlFrameReceived
  | textReceived
  | callsignReceived
  | repeaterInfoReceived
  | audioFrameReceived
  | digitalAudio
  | videoData
  | netData
  | endOfContinuousTransmission
  | receiveEnded
  | relayRequest
  deriving DecidableEq, Repr

/-- An event record (R92): its code, the relayed kind (`none`, code 0, in every other record), and
its payload. The header's LEN is the number of payload bytes. -/
structure Event where
  code : EventCode
  kind : FrameKind
  bytes : List Byte
  deriving DecidableEq, Repr

/-- The RX bit buffer (R25): one entry for each cell written since reset, by strictly rising cell
number. A cell with no entry reads as the free value `Config.bitBufAny` (assumption 6). -/
abbrev BitBuf := List (Nat × Bool)

/-- The canonical form of the bit buffer: cell numbers strictly rise. -/
abbrev BitBuf.wf (m : BitBuf) : Prop := m.Pairwise (fun a b => a.1 < b.1)

/-- The RX engine's state, the tuple of R20. -/
structure RxState where
  /-- RX_PROFILE.IDX (R28, R35) -/
  rxProfile : BitVec 8
  /-- the newest 24 bits, newest in bit 0 (R21) -/
  shiftRegister : BitVec 24
  /-- false is UNSYNCHRONIZED, true is SYNCHRONIZED/ACCUMULATING (R22, R19) -/
  syncFound : Bool
  /-- R23 -/
  currentFrameKind : FrameKind
  /-- payload bits collected since sync (R24) -/
  bitIndex : BitVec 20
  /-- R25 -/
  bitBuf : BitBuf
  /-- sticky (R26) -/
  lastFrameKind : FrameKind
  /-- R27 -/
  diagCounter : BitVec 8
  /-- FIFO, head first (R30) -/
  eventQueue : List Event
  deriving DecidableEq, Repr

/-- What the TX engine holds while `Busy` (R32). -/
structure TxJob where
  /-- the command word being executed -/
  cmd : Word
  /-- `tx_latched`, the profile index copied at TX-START (R31, R191) -/
  latched : BitVec 8
  /-- output bytes still to offer to the sink -/
  outList : List Byte
  /-- payload bytes still to take -/
  need : Nat
  deriving DecidableEq, Repr

/-- `Idle`, or `Busy` with its job (R32). -/
inductive TxEngine where
  | idle
  | busy (job : TxJob)
  deriving DecidableEq, Repr

/-- The TX engine's state and queues (R31, R32). -/
structure TxState where
  /-- TX_PROFILE.IDX (R31, R36) -/
  txProfile : BitVec 8
  engine : TxEngine
  /-- FIFO of command words, head first -/
  cmdQueue : List Word
  /-- FIFO of payload bytes, head first -/
  payQueue : List Byte
  deriving DecidableEq, Repr

/-- The stored fields of CTRL (R34), STATUS (R37) and ERR_INFO (R41). STATUS's other fields are
views of the RX and TX state. -/
structure Control where
  rxEn : Bool
  txEn : Bool
  relayEn : Bool
  cfgErr : Bool
  cmdErr : Bool
  errInfo : Word
  deriving DecidableEq, Repr

/-- Whose step comes next (R7), or the reset line (R280). -/
inductive Turn where
  /-- the RX engine -/
  | rx
  /-- the TX engine -/
  | tx
  /-- the host -/
  | host
  /-- the bit source offers its next symbol -/
  | bitSource
  /-- the byte sink becomes ready, or stops being ready -/
  | byteSink (ready : Bool)
  /-- reset, "one event from outside the block" (R280) -/
  | resetLine
  deriving DecidableEq, Repr

/-- The agents outside the block and the schedule (R7, D36). Only `rxPort` is a port of the block;
the rest is the model's own, so that one deterministic step can show what R7's agents do
(assumptions 1 to 5). -/
structure Env where
  /-- the RX symbol now offered, held until it is accepted (R78, R120) -/
  rxPort : Option Byte
  /-- symbols the bit source will offer, in order (R61) -/
  symbols : List Byte
  /-- operations the host still has to perform, in order (R239) -/
  hostProg : List HostOp
  /-- values returned by the register reads so far, oldest first (R98, R230) -/
  hostReads : List Word
  /-- records popped so far, oldest first (R239) -/
  hostEvents : List Event
  /-- whether the byte sink is ready to accept (R215) -/
  sinkReady : Bool
  /-- bytes the sink has accepted so far, oldest first (R64, R70) -/
  sinkBytes : List Byte
  /-- the turns still to come, next one first (D36) -/
  schedule : List Turn
  deriving DecidableEq, Repr

/-- The state of the machine. -/
structure State where
  build : Build
  rx : RxState
  tx : TxState
  ctl : Control
  env : Env
  deriving DecidableEq, Repr

/-- The ways the model stops. The block itself never stops (R250): each of these is met only in a
state that no run from a valid build reaches, and stopping there is safe. -/
inductive Fault where
  /-- Raised by a step that reads `PROFILES[i]` with `i >= NPROF`, which "always" does not happen
  (R28). Safe. -/
  | noSuchProfile
  /-- Raised by the assembler when it would write a BitBuf cell at or above CAP_MAX, which does not
  exist (R25, R147). Safe. -/
  | bitBufOutside
  /-- Raised by the dispatcher when a frame completes with kind None (R178: "never called with
  k = None"). Safe. -/
  | noneDispatched
  deriving DecidableEq, Repr

/-- The inputs the model refuses. -/
inductive Refusal where
  /-- An arm of `exec` that has no meaning yet. Safe. -/
  | notModelled (mnemonic : String)
  /-- Raised when a block is built from parameters that R10, R11 or R32 do not allow (R265;
  for the depths the model's choice, assumption 8). Safe. -/
  | invalidBuild
  deriving DecidableEq, Repr

/-- The RX engine after reset (R48); no cell of BitBuf is listed. -/
def RxState.reset : RxState :=
  { rxProfile := 0, shiftRegister := 0, syncFound := false, currentFrameKind := .none,
    bitIndex := 0, bitBuf := [], lastFrameKind := .none, diagCounter := 0, eventQueue := [] }

/-- The TX engine after reset (R48). -/
def TxState.reset : TxState :=
  { txProfile := 0, engine := .idle, cmdQueue := [], payQueue := [] }

/-- CTRL, the STATUS error bits and ERR_INFO after reset (R48). -/
def Control.reset : Control :=
  { rxEn := false, txEn := false, relayEn := false, cfgErr := false, cmdErr := false,
    errInfo := 0 }

/-- Outside agents with nothing to do. The spec gives them no reset value: DESIGN CHOICE
(assumption 19). -/
def Env.quiet : Env :=
  { rxPort := none, symbols := [], hostProg := [], hostReads := [], hostEvents := [],
    sinkReady := false, sinkBytes := [], schedule := [] }

/-- A block with build `b` right after reset (R48). -/
def State.resetWith (b : Build) : State :=
  { build := b, rx := .reset, tx := .reset, ctl := .reset, env := .quiet }

/-- The machine right after reset, with the default table of R12. -/
def State.reset : State := State.resetWith Config.defaultBuild

end Sys2Proof.Machine
end

