-- ==== Sys2Proof/Machine/Operands.lean ====
section
/-!
DEFINITION. The pure functions the rules are written in: profile geometry (R11, R28, R29), numeric
codes (R84, R93), sync patterns (R83, R85), target and packing (R141, R144), the transmit byte lists
(R95 to R97, R193 to R201), and the register views (R33 to R43).
-/
namespace Sys2Proof.Machine

open Sys2Proof

/-! Profiles -/

/-- `PROFILES[idx]` (R11, R28); none where the table has no such entry. -/
def profileAt (b : Build) (idx : BitVec 8) : Option Profile := b.profiles[idx.toNat]?

/-- The index is below NPROF (R35, R36). -/
def legalIndex (b : Build) (idx : BitVec 8) : Bool := idx.toNat < b.profiles.length

/-- `bit_buffer_capacity` (R29). -/
def bitBufferCapacity (p : Profile) : Nat :=
  match p.family with
  | .f8 => p.payloadBytes * 8
  | .std | .high => (p.payloadBytes + 1) * 8

/-- `CAP_MAX`, the largest capacity of the table (R25). -/
def capMax (b : Build) : Nat := (b.profiles.map bitBufferCapacity).foldr max 0

/-- `PL_MAX` (R10). -/
def plMax : Nat := 65535

/-- The least `payload_bytes` of a family (R11). -/
def minPayload : Family → Nat
  | .f8 => 1
  | .std | .high => 2

/-- One entry meets R11's bounds. -/
def profileValid (p : Profile) : Bool :=
  decide (minPayload p.family ≤ p.payloadBytes) && decide (p.payloadBytes ≤ plMax)

/-- The parameters R10, R11 and R32 allow. -/
def buildValid (b : Build) : Bool :=
  decide (1 ≤ b.profiles.length ∧ b.profiles.length ≤ 256)
    && b.profiles.all profileValid
    && decide ((b.profiles.filter (fun p => p.family = .f8)).length ≤ 1)
    && decide (3 ≤ b.evtDepth) && decide (1 ≤ b.cmdDepth) && decide (1 ≤ b.payDepth)

/-! Codes -/

/-- FrameKind codes (R84). -/
def kindCode : FrameKind → BitVec 4
  | .none => 0
  | .voice => 1
  | .text => 2
  | .video => 3
  | .data => 4
  | .callsign => 5
  | .repeaterInfo => 6
  | .endOfTx => 7

/-- RX_GEOM and TX_GEOM FAMILY codes (R42). -/
def familyCode : Family → BitVec 2
  | .f8 => 0
  | .std => 1
  | .high => 2

/-- Event codes (R93). -/
def EventCode.code : EventCode → BitVec 4
  | .controlFrameReceived => 0x1
  | .textReceived => 0x2
  | .callsignReceived => 0x3
  | .repeaterInfoReceived => 0x4
  | .audioFrameReceived => 0x5
  | .digitalAudio => 0x6
  | .videoData => 0x7
  | .netData => 0x8
  | .endOfContinuousTransmission => 0x9
  | .receiveEnded => 0xA
  | .relayRequest => 0xB

/-- The header word of a record: CODE at 31:28, KIND at 27:24, LEN at 23:0 (R92). -/
def Event.header (e : Event) : Word :=
  fieldAt 28 e.code.code ||| fieldAt 24 (kindCode e.kind)
    ||| fieldAt 0 (BitVec.ofNat 24 e.bytes.length)

/-! Sync detection -/

/-- One entry `(w, pattern, kind)` of a MatchList (R85). -/
structure SyncPattern where
  width : Nat
  pattern : BitVec 24
  kind : FrameKind
  deriving DecidableEq, Repr

/-- `mask(w)` (R13). -/
def maskOf (w : Nat) : BitVec 24 := BitVec.ofNat 24 (2 ^ w - 1)

/-- `MatchList(fam)`, in check order (R83, R85). -/
def matchList : Family → List SyncPattern
  | .f8 => [⟨8, 0xB5, .voice⟩, ⟨24, 0x4C8A2B, .endOfTx⟩]
  | .std => [⟨16, 0xED89, .voice⟩, ⟨24, 0x89EDAA, .text⟩, ⟨24, 0xED77AA, .repeaterInfo⟩,
      ⟨24, 0x98DEAA, .video⟩, ⟨24, 0x8CC8DD, .callsign⟩, ⟨24, 0xDE98AA, .data⟩,
      ⟨24, 0x4C8A2B, .endOfTx⟩]
  | .high => [⟨24, 0xDE98AA, .data⟩, ⟨24, 0x4C8A2B, .endOfTx⟩]

/-- The pattern's window of the register equals the pattern (R125). -/
def SyncPattern.hits (q : SyncPattern) (sr : BitVec 24) : Bool :=
  (sr &&& maskOf q.width) == q.pattern

/-- `Match(sr, fam)`: the kind of the first entry that hits, `none` if no entry does (R125). -/
def matchKind (sr : BitVec 24) (fam : Family) : FrameKind :=
  match (matchList fam).find? (fun q => q.hits sr) with
  | some q => q.kind
  | none => .none

/-- The received bit of a symbol: bit 0; bits 7:1 are ignored (R81, R121). -/
def symbolBit (sym : Byte) : Bool := sym.getLsbD 0

/-! The bit buffer -/

/-- `BitBuf[i]` (R15, R25). -/
def BitBuf.read : BitBuf → Nat → Bool
  | [], i => Config.bitBufAny i
  | (k, v) :: rest, i => if k = i then v else BitBuf.read rest i

/-- `BitBuf[i] <- b`, keeping the cells in rising order (R15, R25). -/
def BitBuf.write : BitBuf → Nat → Bool → BitBuf
  | [], i, b => [(i, b)]
  | (k, v) :: rest, i, b =>
    if i < k then (i, b) :: (k, v) :: rest
    else if i = k then (i, b) :: rest
    else (k, v) :: BitBuf.write rest i b

/-- The cell was written since reset. -/
def BitBuf.holds (m : BitBuf) (i : Nat) : Bool := m.any (fun c => c.1 == i)

/-- `Target(kind, pl, fam)` in bits (R141). -/
def target (kind : FrameKind) (p : Profile) : Nat :=
  match p.family with
  | .f8 => p.payloadBytes * 8
  | .std | .high =>
    if kind = .voice then p.payloadBytes * 8 + 8 else p.payloadBytes * 8 - 8

/-- Byte `j` of a packed frame: the first collected bit is bit 7 (R62, R144). -/
def packByte (m : BitBuf) (j : Nat) : Byte :=
  (List.range 8).foldl
    (fun acc i => acc ||| ((BitVec.ofBool (m.read (8 * j + i))).setWidth 8 <<< (7 - i))) 0

/-- `Pack(T)`: `T/8` bytes (R144). -/
def pack (m : BitBuf) (t : Nat) : List Byte := (List.range (t / 8)).map (packByte m)

/-! Frame contents -/

/-- `Trim`: the bytes without their trailing zero bytes (R166). -/
def trim (bytes : List Byte) : List Byte :=
  (bytes.reverse.dropWhile (fun b => b == 0)).reverse

/-- The newline byte of the End-after-Text record (R162; the value is the spec's G1, general
knowledge: PRESUMED, assumption 12). -/
def newline : Byte := 0x0A

/-! Transmit byte lists -/

/-- `Prefix(kind, fam)` (R95, R96, R203). -/
def framePrefix : TxKind → Family → List Byte
  | .voice, .f8 => [0xB5]
  | .voice, _ => [0xED, 0x89, 0xAA]
  | .text, .f8 => [0x89, 0xED]
  | .text, _ => [0x89, 0xED, 0xAA]
  | .video, .f8 => [0x98, 0xDE]
  | .video, _ => [0x98, 0xDE, 0xAA]
  | .data, .f8 => [0xDE, 0x98]
  | .data, _ => [0xDE, 0x98, 0xAA]
  | .repinfo, .f8 => [0xED, 0x77]
  | .repinfo, _ => [0xED, 0x77, 0xAA]
  | .callsign, _ => [0x8C, 0xC8, 0xDD]

/-- `PreByte(fam)` (R97). -/
def preByte : Family → Byte
  | .f8 => 0xB5
  | .std | .high => 0xED

/-- The fixed End pattern (R97). -/
def endPattern : List Byte := [0x4C, 0x8A, 0x2B]

/-- The End filler byte (R97). -/
def endFiller : Byte := 0x01

/-- `Head(d)`, the bytes offered before any payload is taken (R193 to R201). -/
def cmdHead (d : TxCmd) (p : Profile) : List Byte :=
  match d with
  | .nop => []
  | .frame k => framePrefix k p.family
  | .bulk _ => []
  | .preamble => List.replicate (2 * p.payloadBytes) (preByte p.family)
  | .endMarker => endPattern ++ List.replicate p.payloadBytes endFiller
  | .illegal => []

/-- `Body(d, j, b)`, the bytes offered for payload byte number `j` (R193 to R201). -/
def cmdBody (d : TxCmd) (p : Profile) (j : Nat) (b : Byte) : List Byte :=
  match d with
  | .nop => []
  | .frame _ => [b]
  | .bulk k => (if j % p.payloadBytes = 0 then framePrefix k p.family else []) ++ [b]
  | .preamble => []
  | .endMarker => []
  | .illegal => []

/-- `Tail(d)`, the bytes offered after the last payload byte; `len` is LEN (R193 to R201). -/
def cmdTail (d : TxCmd) (p : Profile) (len : Nat) : List Byte :=
  match d with
  | .bulk _ =>
    if len % p.payloadBytes = 0 then []
    else List.replicate (p.payloadBytes - len % p.payloadBytes) 0x00
  | .nop | .frame _ | .preamble | .endMarker | .illegal => []

/-! Register views -/

/-- CTRL (R34): RX_RESTART and the reserved fields read 0. -/
def ctrlValue (c : Control) : Word :=
  fieldAt 0 (BitVec.ofBool c.rxEn) ||| fieldAt 1 (BitVec.ofBool c.txEn)
    ||| fieldAt 2 (BitVec.ofBool c.relayEn)

/-- STATUS.TX_BUSY: 1 exactly when the engine is `Busy` (R32, R37). -/
def TxEngine.isBusy : TxEngine → Bool
  | .idle => false
  | .busy _ => true

/-- STATUS (R37). -/
def statusValue (s : State) : Word :=
  fieldAt 0 (BitVec.ofBool s.rx.syncFound) ||| fieldAt 1 (BitVec.ofBool s.tx.engine.isBusy)
    ||| fieldAt 2 (BitVec.ofBool s.ctl.cfgErr) ||| fieldAt 3 (BitVec.ofBool s.ctl.cmdErr)
    ||| fieldAt 4 (kindCode s.rx.currentFrameKind)
    ||| fieldAt 8 (kindCode s.rx.lastFrameKind)

/-- RX_GEOM and TX_GEOM of a profile (R42, R43). -/
def geomValue (p : Profile) : Word :=
  fieldAt 0 (BitVec.ofNat 16 p.payloadBytes) ||| fieldAt 16 (familyCode p.family)

/-- The profile index in a written word, `value[7:0]` (R35, R36). -/
def writtenIndex (v : Word) : BitVec 8 := v.extractLsb' 0 8

end Sys2Proof.Machine
end

