-- ==== Sys2Proof/Machine/Flags.lean ====
section
/-!
DEFINITION. The flags (R47) and the counter that watches sync: the diagnostic counter's rule (R122),
the two sticky error bits as they are set (R253) and cleared (R256), and the CTRL bits as a write
sets them (R232).
-/
namespace Sys2Proof.Machine

open Sys2Proof

/-- The diagnostic counter after one accepted symbol; `was` is sync_found at the start of the step
(R122). -/
def diagNext (was : Bool) (d : BitVec 8) : BitVec 8 :=
  if was then (if d = 0 then 0 else d - 1) else (if d = 255 then 255 else d + 1)

/-- The two error causes (R251). -/
inductive ErrorCause where
  | cfgError
  | cmdError
  deriving DecidableEq, Repr

/-- `raise CfgError(v)` and `raise CmdError(c)`: the cause's sticky bit is set and ERR_INFO takes the
offending word (R253, R257). -/
def Control.raise (cause : ErrorCause) (v : Word) (c : Control) : Control :=
  match cause with
  | .cfgError => { c with cfgErr := true, errInfo := v }
  | .cmdError => { c with cmdErr := true, errInfo := v }

/-- The write-1-to-clear of STATUS; ERR_INFO is kept (R237, R256). -/
def Control.clearErrors (v : Word) (c : Control) : Control :=
  { c with cfgErr := c.cfgErr && !v.getLsbD 2, cmdErr := c.cmdErr && !v.getLsbD 3 }

/-- The CTRL enable bits as a write sets them (R232). -/
def Control.setEnables (v : Word) (c : Control) : Control :=
  { c with rxEn := v.getLsbD 0, txEn := v.getLsbD 1, relayEn := v.getLsbD 2 }

end Sys2Proof.Machine
end

