-- ==== Sys2Proof/Machine/Ops.lean ====
section
/-!
DEFINITION. The named operations over the state: the sync resets (R146, R282), appending a record
(R92), raising an error (the block's only "exception", R250 to R253: nothing is saved, no control
flow changes), what ends a host operation (R98, R239), reset (R280), building a block (R265), and the
choice of the item the next turn runs.
-/
namespace Sys2Proof.Machine

open Sys2Proof

/-! RX -/

/-- `SyncReset()`, the frame-completion reset (R146). -/
def RxState.syncReset (r : RxState) : RxState :=
  { r with syncFound := false, currentFrameKind := .none, bitIndex := 0, shiftRegister := 0 }

/-- `HostSyncReset()` (R282). -/
def RxState.hostSyncReset (r : RxState) : RxState :=
  { r.syncReset with lastFrameKind := .none, diagCounter := 0 }

/-- `emit(code, kind, bytes)` (R15, R92). -/
def RxState.emit (code : EventCode) (kind : FrameKind) (bytes : List Byte) (r : RxState) : RxState :=
  { r with eventQueue := r.eventQueue ++ [{ code := code, kind := kind, bytes := bytes }] }

/-- `last_frame_kind <- k` (R171). -/
def RxState.setLast (k : FrameKind) (r : RxState) : RxState := { r with lastFrameKind := k }

/-! Errors -/

/-- Raising an error in the step that detects it (R250, R253). -/
def State.raiseError (cause : ErrorCause) (v : Word) (s : State) : State :=
  { s with ctl := s.ctl.raise cause v }

/-! The host's side of an operation -/

/-- The host operation at the head is done. -/
def State.hostDone (s : State) : State :=
  { s with env := { s.env with hostProg := s.env.hostProg.tail } }

/-- The host operation at the head is done and returned the value `v` (R98, R230). -/
def State.hostReturn (v : Word) (s : State) : State :=
  { s with env := { s.env with hostProg := s.env.hostProg.tail, hostReads := s.env.hostReads ++ [v] } }

/-! Reset and build -/

/-- Reset: every variable of the block takes its R48 value; the agents outside the block keep
theirs (R280). -/
def State.blockReset (s : State) : State := { State.resetWith s.build with env := s.env }

/-- Building a block: an invalid build is refused, for its table as R11 and R265 say, and for its
depths (R10, R32) as the model's choice (DESIGN CHOICE, assumption 8). -/
def powerOn (b : Build) : Host.Outcome State Fault Refusal :=
  if buildValid b then .next (State.resetWith b) else .refused .invalidBuild

/-! Turns -/

/-- The schedule without its first turn. -/
def State.dropTurn (s : State) : State :=
  { s with env := { s.env with schedule := s.env.schedule.tail } }

/-- The item a turn has to run: the offered symbol (R120), the command at the head of the queue of
an idle TX engine (R190), or the host's next operation (R239). A turn of another agent, and a TX turn
while `Busy`, runs no item. -/
def fetch (t : Turn) (s : State) : Option Item :=
  match t with
  | .rx => s.env.rxPort.map Item.rxsym
  | .tx =>
    match s.tx.engine with
    | .idle => s.tx.cmdQueue.head?.map Item.cmd
    | .busy _ => none
  | .host => s.env.hostProg.head?.map Item.host
  | .bitSource | .byteSink _ | .resetLine => none

/-- The bit source offers its next symbol if the port is free, and otherwise holds (R78). -/
def State.offerSymbol (s : State) : State :=
  match s.env.rxPort, s.env.symbols with
  | none, sym :: rest => { s with env := { s.env with rxPort := some sym, symbols := rest } }
  | _, _ => s

end Sys2Proof.Machine
end

