-- ==== Sys2Proof/Machine/HostRead.lean ====
section
/-!
DEFINITION. The meanings of the register reads (R230). A read returns the register's view and changes
nothing in the block.
-/
namespace Sys2Proof.Machine

open Sys2Proof

/-- RD.CTRL (R34, R230). -/
def execRdCtrl (s : State) : Host.Outcome State Fault Refusal :=
  .next (s.hostReturn (ctrlValue s.ctl))

/-- RD.RX_PROFILE (R35, R230). -/
def execRdRxProfile (s : State) : Host.Outcome State Fault Refusal :=
  .next (s.hostReturn (s.rx.rxProfile.setWidth 32))

/-- RD.TX_PROFILE (R36, R230). -/
def execRdTxProfile (s : State) : Host.Outcome State Fault Refusal :=
  .next (s.hostReturn (s.tx.txProfile.setWidth 32))

/-- RD.STATUS (R37, R230). -/
def execRdStatus (s : State) : Host.Outcome State Fault Refusal :=
  .next (s.hostReturn (statusValue s))

/-- RD.DIAG (R38, R230). -/
def execRdDiag (s : State) : Host.Outcome State Fault Refusal :=
  .next (s.hostReturn (s.rx.diagCounter.setWidth 32))

/-- RD.BIT_INDEX (R39, R230). -/
def execRdBitIndex (s : State) : Host.Outcome State Fault Refusal :=
  .next (s.hostReturn (s.rx.bitIndex.setWidth 32))

/-- RD.SHIFT_REG (R40, R230). -/
def execRdShiftReg (s : State) : Host.Outcome State Fault Refusal :=
  .next (s.hostReturn (s.rx.shiftRegister.setWidth 32))

/-- RD.ERR_INFO (R41, R230). -/
def execRdErrInfo (s : State) : Host.Outcome State Fault Refusal :=
  .next (s.hostReturn s.ctl.errInfo)

/-- RD.RX_GEOM (R42, R230). -/
def execRdRxGeom (s : State) : Host.Outcome State Fault Refusal :=
  match profileAt s.build s.rx.rxProfile with
  | some p => .next (s.hostReturn (geomValue p))
  | none => .fault .noSuchProfile

/-- RD.TX_GEOM (R43, R230). -/
def execRdTxGeom (s : State) : Host.Outcome State Fault Refusal :=
  match profileAt s.build s.tx.txProfile with
  | some p => .next (s.hostReturn (geomValue p))
  | none => .fault .noSuchProfile

/-- RD.RESERVED_0A_0B (R44, R230): reads 0. -/
def execRdReserved0A0B (_x : BitVec 1) (s : State) : Host.Outcome State Fault Refusal :=
  .next (s.hostReturn 0)

/-- RD.RESERVED_0C_0F (R44, R230): reads 0. -/
def execRdReserved0C0F (_x : BitVec 2) (s : State) : Host.Outcome State Fault Refusal :=
  .next (s.hostReturn 0)

/-- RD.RESERVED_10_1F (R44, R230): reads 0. -/
def execRdReserved101F (_x : BitVec 4) (s : State) : Host.Outcome State Fault Refusal :=
  .next (s.hostReturn 0)

/-- RD.RESERVED_20_3F (R44, R230): reads 0. -/
def execRdReserved203F (_x : BitVec 5) (s : State) : Host.Outcome State Fault Refusal :=
  .next (s.hostReturn 0)

/-- RD.RESERVED_40_7F (R44, R230): reads 0. -/
def execRdReserved407F (_x : BitVec 6) (s : State) : Host.Outcome State Fault Refusal :=
  .next (s.hostReturn 0)

/-- RD.RESERVED_80_FF (R44, R230): reads 0. -/
def execRdReserved80FF (_x : BitVec 7) (s : State) : Host.Outcome State Fault Refusal :=
  .next (s.hostReturn 0)

end Sys2Proof.Machine
end

