-- ==== Sys2Proof/Machine/HostStream.lean ====
section
/-!
DEFINITION. The meanings of the host's stream operations (R239).
-/
namespace Sys2Proof.Machine

open Sys2Proof

/-- PUSHC (R239): appends a command word, or holds while the queue is full. -/
def execPushc (c : Word) (s : State) : Host.Outcome State Fault Refusal :=
  if s.tx.cmdQueue.length < s.build.cmdDepth then
    .next { s with tx := { s.tx with cmdQueue := s.tx.cmdQueue ++ [c] } }.hostDone
  else .next s

/-- PUSHB (R239): appends a payload byte, or holds while the queue is full. -/
def execPushb (b : Byte) (s : State) : Host.Outcome State Fault Refusal :=
  if s.tx.payQueue.length < s.build.payDepth then
    .next { s with tx := { s.tx with payQueue := s.tx.payQueue ++ [b] } }.hostDone
  else .next s

/-- The head record leaves the event queue and reaches the host (R239). -/
def State.popEvent (e : Event) (rest : List Event) (s : State) : State :=
  { s with
    rx := { s.rx with eventQueue := rest }
    env := { s.env with hostEvents := s.env.hostEvents ++ [e] } }

/-- POPE (R239): removes and returns the head record, or holds while there is none. -/
def execPope (s : State) : Host.Outcome State Fault Refusal :=
  match s.rx.eventQueue with
  | e :: rest => .next (s.popEvent e rest).hostDone
  | [] => .next s

end Sys2Proof.Machine
end

