-- ==== Sys2Proof/Machine/HostWrite.lean ====
section
/-!
DEFINITION. The meanings of the register writes (R231 to R238).
-/
namespace Sys2Proof.Machine

open Sys2Proof

/-- WR.CTRL (R232, R233). -/
def execWrCtrl (v : Word) (s : State) : Host.Outcome State Fault Refusal :=
  .next { s with
    ctl := s.ctl.setEnables v
    rx := if v.getLsbD 8 then s.rx.hostSyncReset else s.rx }.hostDone

/-- WR.RX_PROFILE (R234, R235): a legal index is taken and RX sync is reset; an illegal one raises
CfgError with the whole written word. -/
def execWrRxProfile (v : Word) (s : State) : Host.Outcome State Fault Refusal :=
  if legalIndex s.build (writtenIndex v) then
    .next { s with rx := { s.rx with rxProfile := writtenIndex v }.hostSyncReset }.hostDone
  else .next (s.raiseError .cfgError v).hostDone

/-- WR.TX_PROFILE (R236). -/
def execWrTxProfile (v : Word) (s : State) : Host.Outcome State Fault Refusal :=
  if legalIndex s.build (writtenIndex v) then
    .next { s with tx := { s.tx with txProfile := writtenIndex v } }.hostDone
  else .next (s.raiseError .cfgError v).hostDone

/-- WR.STATUS (R237): write 1 to clear. -/
def execWrStatus (v : Word) (s : State) : Host.Outcome State Fault Refusal :=
  .next { s with ctl := s.ctl.clearErrors v }.hostDone

/-- WR.DIAG (R238): ignored, no error. -/
def execWrDiag (_v : Word) (s : State) : Host.Outcome State Fault Refusal :=
  .next s.hostDone

/-- WR.BIT_INDEX (R238): ignored, no error. -/
def execWrBitIndex (_v : Word) (s : State) : Host.Outcome State Fault Refusal :=
  .next s.hostDone

/-- WR.SHIFT_REG (R238): ignored, no error. -/
def execWrShiftReg (_v : Word) (s : State) : Host.Outcome State Fault Refusal :=
  .next s.hostDone

/-- WR.ERR_INFO (R238): ignored, no error. -/
def execWrErrInfo (_v : Word) (s : State) : Host.Outcome State Fault Refusal :=
  .next s.hostDone

/-- WR.RX_GEOM (R238): ignored, no error. -/
def execWrRxGeom (_v : Word) (s : State) : Host.Outcome State Fault Refusal :=
  .next s.hostDone

/-- WR.TX_GEOM (R238): ignored, no error. -/
def execWrTxGeom (_v : Word) (s : State) : Host.Outcome State Fault Refusal :=
  .next s.hostDone

/-- WR.RESERVED_0A_0B (R44, R238): ignored, no error. -/
def execWrReserved0A0B (_x : BitVec 1) (_v : Word) (s : State) :
    Host.Outcome State Fault Refusal :=
  .next s.hostDone

/-- WR.RESERVED_0C_0F (R44, R238): ignored, no error. -/
def execWrReserved0C0F (_x : BitVec 2) (_v : Word) (s : State) :
    Host.Outcome State Fault Refusal :=
  .next s.hostDone

/-- WR.RESERVED_10_1F (R44, R238): ignored, no error. -/
def execWrReserved101F (_x : BitVec 4) (_v : Word) (s : State) :
    Host.Outcome State Fault Refusal :=
  .next s.hostDone

/-- WR.RESERVED_20_3F (R44, R238): ignored, no error. -/
def execWrReserved203F (_x : BitVec 5) (_v : Word) (s : State) :
    Host.Outcome State Fault Refusal :=
  .next s.hostDone

/-- WR.RESERVED_40_7F (R44, R238): ignored, no error. -/
def execWrReserved407F (_x : BitVec 6) (_v : Word) (s : State) :
    Host.Outcome State Fault Refusal :=
  .next s.hostDone

/-- WR.RESERVED_80_FF (R44, R238): ignored, no error. -/
def execWrReserved80FF (_x : BitVec 7) (_v : Word) (s : State) :
    Host.Outcome State Fault Refusal :=
  .next s.hostDone

end Sys2Proof.Machine
end

