-- ==== Sys2Proof/Machine/FrameDispatcher.lean ====
section
/-!
DEFINITION. The frame dispatcher (42_rx_dispatcher.md): which records a completed frame appends, in
which order, and what it leaves in last_frame_kind.
-/
namespace Sys2Proof.Machine

open Sys2Proof

/-- Append RELAY_REQUEST if relay is enabled (R164, R168, R174 to R176). -/
def RxState.relay (relayEn : Bool) (kind : FrameKind) (bytes : List Byte) (r : RxState) : RxState :=
  if relayEn then r.emit .relayRequest kind bytes else r

/-- DispatchEnd (R162, R163). -/
def RxState.dispatchEnd (r : RxState) : RxState :=
  let r1 :=
    match r.lastFrameKind with
    | .text => r.emit .textReceived .none [newline]
    | .voice | .callsign | .video => r.emit .endOfContinuousTransmission .none []
    | .none | .data | .repeaterInfo | .endOfTx => r
  r1.emit .receiveEnded .none []

/-- DispatchText (R164). -/
def RxState.dispatchText (relayEn : Bool) (bytes : List Byte) (r : RxState) : RxState :=
  ((((r.emit .controlFrameReceived .none []).emit .textReceived .none (trim bytes)).relay relayEn
    .text (trim bytes)).setLast .text)

/-- DispatchCallsign (R165). -/
def RxState.dispatchCallsign (relayEn : Bool) (bytes : List Byte) (r : RxState) : RxState :=
  ((((r.emit .controlFrameReceived .none []).emit .callsignReceived .none (trim bytes)).relay
    relayEn .callsign (trim bytes)).setLast .callsign)

/-- DispatchRepeaterInfo (R167). -/
def RxState.dispatchRepeaterInfo (bytes : List Byte) (r : RxState) : RxState :=
  ((r.emit .controlFrameReceived .none []).emit .repeaterInfoReceived .none bytes).setLast
    .repeaterInfo

/-- The codec frame of a Voice frame: F8 keeps every byte, the others drop the first (R168). -/
def codecFrame (fam : Family) (bytes : List Byte) : List Byte :=
  match fam with
  | .f8 => bytes
  | .std | .high => bytes.drop 1

/-- DispatchVoice (R168). -/
def RxState.dispatchVoice (fam : Family) (relayEn : Bool) (bytes : List Byte) (r : RxState) :
    RxState :=
  ((((r.emit .audioFrameReceived .none []).emit .digitalAudio .none (codecFrame fam bytes)).relay
    relayEn .voice (codecFrame fam bytes)).setLast .voice)

/-- DispatchVideo (R169). -/
def RxState.dispatchVideo (bytes : List Byte) (r : RxState) : RxState :=
  ((r.emit .controlFrameReceived .none []).emit .videoData .none bytes).setLast .video

/-- DispatchData (R170). -/
def RxState.dispatchData (bytes : List Byte) (r : RxState) : RxState :=
  (r.emit .netData .none bytes).setLast .data

/-- `Dispatch(bytes, k, pl, fam)` (R160); it is never called with None (R178). -/
def RxState.dispatch (k : FrameKind) (fam : Family) (relayEn : Bool) (bytes : List Byte)
    (r : RxState) : Except Fault RxState :=
  match k with
  | .endOfTx => .ok r.dispatchEnd
  | .text => .ok (r.dispatchText relayEn bytes)
  | .callsign => .ok (r.dispatchCallsign relayEn bytes)
  | .repeaterInfo => .ok (r.dispatchRepeaterInfo bytes)
  | .voice => .ok (r.dispatchVoice fam relayEn bytes)
  | .video => .ok (r.dispatchVideo bytes)
  | .data => .ok (r.dispatchData bytes)
  | .none => .error .noneDispatched

end Sys2Proof.Machine
end

