-- ==== Sys2Proof/Machine/RxEngine.lean ====
section
/-!
DEFINITION. The RX step (40_rx_sync_detector.md, 41_rx_assembler.md) and the meaning of OBSERVE_BIT.
-/
namespace Sys2Proof.Machine

open Sys2Proof

/-- The diagnostic counter and the shift register take one accepted bit, in that order
(R122, R123). -/
def RxState.takeBit (b : Bool) (r : RxState) : RxState :=
  { r with
    diagCounter := diagNext r.syncFound r.diagCounter
    shiftRegister := (r.shiftRegister <<< 1) ||| (BitVec.ofBool b).setWidth 24 }

/-- The compare of the unsynchronised detector, on the register as shifted (R124 to R127). -/
def RxState.detect (fam : Family) (r : RxState) : RxState :=
  match matchKind r.shiftRegister fam with
  | .none => r
  | k => { r with syncFound := true, currentFrameKind := k, bitIndex := 0 }

/-- `BitBuf[bit_index] <- b; bit_index <- bit_index + 1` (R140). -/
def RxState.store (b : Bool) (r : RxState) : RxState :=
  { r with bitBuf := BitBuf.write r.bitBuf r.bitIndex.toNat b, bitIndex := r.bitIndex + 1 }

/-- Frame completion: pack, dispatch, sync reset (R145). -/
def RxState.complete (p : Profile) (relayEn : Bool) (r : RxState) : Except Fault RxState :=
  match r.dispatch r.currentFrameKind p.family relayEn
      (pack r.bitBuf (target r.currentFrameKind p)) with
  | .ok r1 => .ok r1.syncReset
  | .error f => .error f

/-- `Accumulate(b, pl, fam)` (R140, R143). -/
def RxState.accumulate (bld : Build) (p : Profile) (relayEn b : Bool) (r : RxState) :
    Except Fault RxState :=
  if r.bitIndex.toNat < capMax bld then
    let r1 := r.store b
    if r1.bitIndex.toNat = target r1.currentFrameKind p then r1.complete p relayEn else .ok r1
  else .error .bitBufOutside

/-- OBSERVE_BIT on the RX engine's state (R120). -/
def RxState.observe (bld : Build) (relayEn : Bool) (sym : Byte) (r : RxState) :
    Except Fault RxState :=
  match profileAt bld r.rxProfile with
  | none => .error .noSuchProfile
  | some p =>
    if r.syncFound then (r.takeBit (symbolBit sym)).accumulate bld p relayEn (symbolBit sym)
    else .ok ((r.takeBit (symbolBit sym)).detect p.family)

/-- The RX engine accepts an offered symbol: RX_EN, and 3 free event slots (R120). -/
def State.rxReady (s : State) : Bool :=
  s.ctl.rxEn && decide (3 ≤ s.build.evtDepth - s.rx.eventQueue.length)

/-- OBSERVE_BIT (R120): one RX step on the symbol, which leaves the port; while the RX engine is not
ready the symbol stays and nothing changes. -/
def execObserveBit (sym : Byte) (s : State) : Host.Outcome State Fault Refusal :=
  if s.rxReady then
    match s.rx.observe s.build s.ctl.relayEn sym with
    | .ok r => .next { s with rx := r, env := { s.env with rxPort := none } }
    | .error f => .fault f
  else .next s

end Sys2Proof.Machine
end

