-- ==== Sys2Proof/Machine/TxEngine.lean ====
section
/-!
DEFINITION. The TX engine's four steps (43_tx_framer.md section 1). TX-START is shared by the
meanings of all command words; TX-TAKE, TX-OUT and TX-END are the engine's own later steps, which run
no item.
-/
namespace Sys2Proof.Machine

open Sys2Proof

/-- The TX engine may start the next command (R190, R210). -/
def State.txReady (s : State) : Bool := s.ctl.txEn && !s.tx.engine.isBusy

/-- An illegal word raises CmdError at TX-START; any other word raises nothing (R190, R201). -/
def raiseIfIllegal (d : TxCmd) (c : Word) (s : State) : State :=
  match d with
  | .illegal => s.raiseError .cmdError c
  | .nop | .frame _ | .bulk _ | .preamble | .endMarker => s

/-- The job TX-START leaves: the head, and the tail too when there is no payload (R190, R198). -/
def startJob (d : TxCmd) (c : Word) (idx : BitVec 8) (p : Profile) : TxJob :=
  { cmd := c
    latched := idx
    outList := cmdHead d p ++ (if lenOf c = 0 then cmdTail d p 0 else [])
    need := (lenOf c).toNat }

/-- TX-START of the command word `c`, which decodes to `d`: the word leaves the queue, the profile is
latched, an illegal word raises CmdError, and the engine is `Busy` (R190, R191, R201). While TX-START
is not enabled nothing changes. -/
def startCommand (d : TxCmd) (c : Word) (s : State) : Host.Outcome State Fault Refusal :=
  if s.txReady then
    match profileAt s.build s.tx.txProfile with
    | none => .fault .noSuchProfile
    | some p =>
      let s1 := raiseIfIllegal d c s
      .next { s1 with tx := { s1.tx with
        cmdQueue := s1.tx.cmdQueue.tail, engine := .busy (startJob d c s1.tx.txProfile p) } }
  else .next s

/-- TX-OUT: the sink accepts the first output byte (R215). -/
def State.txOut (job : TxJob) (b : Byte) (rest : List Byte) (s : State) : State :=
  { s with
    tx := { s.tx with engine := .busy { job with outList := rest } }
    env := { s.env with sinkBytes := s.env.sinkBytes ++ [b] } }

/-- The output for payload byte `b`, and the tail after the last one (R196). -/
def takeOutput (d : TxCmd) (p : Profile) (len need : Nat) (b : Byte) : List Byte :=
  cmdBody d p (len - need) b ++ (if need = 1 then cmdTail d p len else [])

/-- TX-TAKE of the payload byte `b` (R196). -/
def State.txTake (job : TxJob) (p : Profile) (b : Byte) (rest : List Byte) (s : State) : State :=
  { s with tx := { s.tx with
      payQueue := rest
      engine := .busy { job with
        outList := takeOutput (TxCmd.ofWord job.cmd) p (lenOf job.cmd).toNat job.need b
        need := job.need - 1 } } }

/-- TX-END (R202). -/
def State.txEnd (s : State) : State := { s with tx := { s.tx with engine := .idle } }

/-- A TX turn while `Busy`: the one step of TX-OUT, TX-TAKE and TX-END that is enabled, or a hold on
the sink (R215) or on the payload queue (R196). -/
def State.txContinue (job : TxJob) (s : State) : Host.Outcome State Fault Refusal :=
  match job.outList with
  | b :: rest => if s.env.sinkReady then .next (s.txOut job b rest) else .next s
  | [] =>
    if job.need = 0 then .next s.txEnd
    else
      match s.tx.payQueue with
      | [] => .next s
      | b :: rest =>
        match profileAt s.build job.latched with
        | none => .fault .noSuchProfile
        | some p => .next (s.txTake job p b rest)

/-- A turn that runs no item: the TX engine's own steps, the outside agents, reset, or a hold. -/
def ownTurn (t : Turn) (s : State) : Host.Outcome State Fault Refusal :=
  match t with
  | .tx =>
    match s.tx.engine with
    | .busy job => s.txContinue job
    | .idle => .next s
  | .rx | .host => .next s
  | .bitSource => .next s.offerSymbol
  | .byteSink ready => .next { s with env := { s.env with sinkReady := ready } }
  | .resetLine => .next s.blockReset

end Sys2Proof.Machine
end

