-- ==== Sys2Proof/Machine/TxCommands.lean ====
section
/-!
DEFINITION. The meanings of the legal command words (43_tx_framer.md section 2): TX-START of the word, after
which the engine's own steps (TxEngine.lean) take the payload and offer the output.
-/
namespace Sys2Proof.Machine

open Sys2Proof

/-- NOP (R91, R193): takes and discards LEN payload bytes, no output, no error. -/
def execNop (kind : BitVec 4) (len : BitVec 24) (s : State) : Host.Outcome State Fault Refusal :=
  startCommand .nop (commandWord 0x0 kind len) s

/-- FRAME.VOICE (R194): Prefix, then the payload unchanged. -/
def execFrameVoice (len : BitVec 24) (s : State) : Host.Outcome State Fault Refusal :=
  startCommand (.frame .voice) (commandWord 0x1 0x1 len) s

/-- FRAME.TEXT (R194): Prefix, then the payload unchanged. -/
def execFrameText (len : BitVec 24) (s : State) : Host.Outcome State Fault Refusal :=
  startCommand (.frame .text) (commandWord 0x1 0x2 len) s

/-- FRAME.VIDEO (R194): Prefix, then the payload unchanged. -/
def execFrameVideo (len : BitVec 24) (s : State) : Host.Outcome State Fault Refusal :=
  startCommand (.frame .video) (commandWord 0x1 0x3 len) s

/-- FRAME.DATA (R194): Prefix, then the payload unchanged. -/
def execFrameData (len : BitVec 24) (s : State) : Host.Outcome State Fault Refusal :=
  startCommand (.frame .data) (commandWord 0x1 0x4 len) s

/-- FRAME.CALLSIGN (R194): Prefix, then the payload unchanged. -/
def execFrameCallsign (len : BitVec 24) (s : State) : Host.Outcome State Fault Refusal :=
  startCommand (.frame .callsign) (commandWord 0x1 0x5 len) s

/-- FRAME.REPINFO (R194): Prefix, then the payload unchanged. -/
def execFrameRepinfo (len : BitVec 24) (s : State) : Host.Outcome State Fault Refusal :=
  startCommand (.frame .repinfo) (commandWord 0x1 0x6 len) s

/-- BULK.VOICE (R197): chunks of the frame length, each with its Prefix, the last zero-padded. -/
def execBulkVoice (len : BitVec 24) (s : State) : Host.Outcome State Fault Refusal :=
  startCommand (.bulk .voice) (commandWord 0x2 0x1 len) s

/-- BULK.TEXT (R197): chunks of the frame length, each with its Prefix, the last zero-padded. -/
def execBulkText (len : BitVec 24) (s : State) : Host.Outcome State Fault Refusal :=
  startCommand (.bulk .text) (commandWord 0x2 0x2 len) s

/-- BULK.VIDEO (R197): chunks of the frame length, each with its Prefix, the last zero-padded. -/
def execBulkVideo (len : BitVec 24) (s : State) : Host.Outcome State Fault Refusal :=
  startCommand (.bulk .video) (commandWord 0x2 0x3 len) s

/-- BULK.DATA (R197): chunks of the frame length, each with its Prefix, the last zero-padded. -/
def execBulkData (len : BitVec 24) (s : State) : Host.Outcome State Fault Refusal :=
  startCommand (.bulk .data) (commandWord 0x2 0x4 len) s

/-- BULK.CALLSIGN (R197): chunks of the frame length, each with its Prefix, the last zero-padded. -/
def execBulkCallsign (len : BitVec 24) (s : State) : Host.Outcome State Fault Refusal :=
  startCommand (.bulk .callsign) (commandWord 0x2 0x5 len) s

/-- BULK.REPINFO (R197): chunks of the frame length, each with its Prefix, the last zero-padded. -/
def execBulkRepinfo (len : BitVec 24) (s : State) : Host.Outcome State Fault Refusal :=
  startCommand (.bulk .repinfo) (commandWord 0x2 0x6 len) s

/-- PREAMBLE (R199): twice the frame length of PreByte. -/
def execPreamble (s : State) : Host.Outcome State Fault Refusal :=
  startCommand .preamble (commandWord 0x3 0x0 0) s

/-- END_MARKER (R200): the End pattern and the filler bytes. -/
def execEndMarker (s : State) : Host.Outcome State Fault Refusal :=
  startCommand .endMarker (commandWord 0x4 0x0 0) s

end Sys2Proof.Machine
end

