-- ==== Sys2Proof/Machine/TxIllegal.lean ====
section
/-!
DEFINITION. The meanings of the illegal command words (R88, R90, R201): TX-START raises CmdError with the
word, and the engine then takes and discards LEN payload bytes without output.
-/
namespace Sys2Proof.Machine

open Sys2Proof

/-- ILLEGAL.FRAME.KIND0 (R88, R201). -/
def execIllegalFrameKind0 (len : BitVec 24) (s : State) : Host.Outcome State Fault Refusal :=
  startCommand .illegal (commandWord 0x1 0x0 len) s

/-- ILLEGAL.FRAME.KIND7 (R88, R201). -/
def execIllegalFrameKind7 (len : BitVec 24) (s : State) : Host.Outcome State Fault Refusal :=
  startCommand .illegal (commandWord 0x1 0x7 len) s

/-- ILLEGAL.FRAME.KIND8 (R88, R201). -/
def execIllegalFrameKind8 (len : BitVec 24) (s : State) : Host.Outcome State Fault Refusal :=
  startCommand .illegal (commandWord 0x1 0x8 len) s

/-- ILLEGAL.FRAME.KIND9 (R88, R201). -/
def execIllegalFrameKind9 (len : BitVec 24) (s : State) : Host.Outcome State Fault Refusal :=
  startCommand .illegal (commandWord 0x1 0x9 len) s

/-- ILLEGAL.FRAME.KINDA (R88, R201). -/
def execIllegalFrameKindA (len : BitVec 24) (s : State) : Host.Outcome State Fault Refusal :=
  startCommand .illegal (commandWord 0x1 0xA len) s

/-- ILLEGAL.FRAME.KINDB (R88, R201). -/
def execIllegalFrameKindB (len : BitVec 24) (s : State) : Host.Outcome State Fault Refusal :=
  startCommand .illegal (commandWord 0x1 0xB len) s

/-- ILLEGAL.FRAME.KINDC (R88, R201). -/
def execIllegalFrameKindC (len : BitVec 24) (s : State) : Host.Outcome State Fault Refusal :=
  startCommand .illegal (commandWord 0x1 0xC len) s

/-- ILLEGAL.FRAME.KINDD (R88, R201). -/
def execIllegalFrameKindD (len : BitVec 24) (s : State) : Host.Outcome State Fault Refusal :=
  startCommand .illegal (commandWord 0x1 0xD len) s

/-- ILLEGAL.FRAME.KINDE (R88, R201). -/
def execIllegalFrameKindE (len : BitVec 24) (s : State) : Host.Outcome State Fault Refusal :=
  startCommand .illegal (commandWord 0x1 0xE len) s

/-- ILLEGAL.FRAME.KINDF (R88, R201). -/
def execIllegalFrameKindF (len : BitVec 24) (s : State) : Host.Outcome State Fault Refusal :=
  startCommand .illegal (commandWord 0x1 0xF len) s

/-- ILLEGAL.BULK.KIND0 (R88, R201). -/
def execIllegalBulkKind0 (len : BitVec 24) (s : State) : Host.Outcome State Fault Refusal :=
  startCommand .illegal (commandWord 0x2 0x0 len) s

/-- ILLEGAL.BULK.KIND7 (R88, R201). -/
def execIllegalBulkKind7 (len : BitVec 24) (s : State) : Host.Outcome State Fault Refusal :=
  startCommand .illegal (commandWord 0x2 0x7 len) s

/-- ILLEGAL.BULK.KIND8 (R88, R201). -/
def execIllegalBulkKind8 (len : BitVec 24) (s : State) : Host.Outcome State Fault Refusal :=
  startCommand .illegal (commandWord 0x2 0x8 len) s

/-- ILLEGAL.BULK.KIND9 (R88, R201). -/
def execIllegalBulkKind9 (len : BitVec 24) (s : State) : Host.Outcome State Fault Refusal :=
  startCommand .illegal (commandWord 0x2 0x9 len) s

/-- ILLEGAL.BULK.KINDA (R88, R201). -/
def execIllegalBulkKindA (len : BitVec 24) (s : State) : Host.Outcome State Fault Refusal :=
  startCommand .illegal (commandWord 0x2 0xA len) s

/-- ILLEGAL.BULK.KINDB (R88, R201). -/
def execIllegalBulkKindB (len : BitVec 24) (s : State) : Host.Outcome State Fault Refusal :=
  startCommand .illegal (commandWord 0x2 0xB len) s

/-- ILLEGAL.BULK.KINDC (R88, R201). -/
def execIllegalBulkKindC (len : BitVec 24) (s : State) : Host.Outcome State Fault Refusal :=
  startCommand .illegal (commandWord 0x2 0xC len) s

/-- ILLEGAL.BULK.KINDD (R88, R201). -/
def execIllegalBulkKindD (len : BitVec 24) (s : State) : Host.Outcome State Fault Refusal :=
  startCommand .illegal (commandWord 0x2 0xD len) s

/-- ILLEGAL.BULK.KINDE (R88, R201). -/
def execIllegalBulkKindE (len : BitVec 24) (s : State) : Host.Outcome State Fault Refusal :=
  startCommand .illegal (commandWord 0x2 0xE len) s

/-- ILLEGAL.BULK.KINDF (R88, R201). -/
def execIllegalBulkKindF (len : BitVec 24) (s : State) : Host.Outcome State Fault Refusal :=
  startCommand .illegal (commandWord 0x2 0xF len) s

/-- ILLEGAL.PREAMBLE (R88, R201): OP 0x3 with KIND or LEN not 0. -/
def execIllegalPreamble (kind : BitVec 4) (len : BitVec 24) (s : State) :
    Host.Outcome State Fault Refusal :=
  startCommand .illegal (commandWord 0x3 kind len) s

/-- ILLEGAL.END_MARKER (R88, R201): OP 0x4 with KIND or LEN not 0. -/
def execIllegalEndMarker (kind : BitVec 4) (len : BitVec 24) (s : State) :
    Host.Outcome State Fault Refusal :=
  startCommand .illegal (commandWord 0x4 kind len) s

/-- ILLEGAL.OP5 (R87, R201). -/
def execIllegalOp5 (kind : BitVec 4) (len : BitVec 24) (s : State) :
    Host.Outcome State Fault Refusal :=
  startCommand .illegal (commandWord 0x5 kind len) s

/-- ILLEGAL.OP6 (R87, R201). -/
def execIllegalOp6 (kind : BitVec 4) (len : BitVec 24) (s : State) :
    Host.Outcome State Fault Refusal :=
  startCommand .illegal (commandWord 0x6 kind len) s

/-- ILLEGAL.OP7 (R87, R201). -/
def execIllegalOp7 (kind : BitVec 4) (len : BitVec 24) (s : State) :
    Host.Outcome State Fault Refusal :=
  startCommand .illegal (commandWord 0x7 kind len) s

/-- ILLEGAL.OP8 (R87, R201). -/
def execIllegalOp8 (kind : BitVec 4) (len : BitVec 24) (s : State) :
    Host.Outcome State Fault Refusal :=
  startCommand .illegal (commandWord 0x8 kind len) s

/-- ILLEGAL.OP9 (R87, R201). -/
def execIllegalOp9 (kind : BitVec 4) (len : BitVec 24) (s : State) :
    Host.Outcome State Fault Refusal :=
  startCommand .illegal (commandWord 0x9 kind len) s

/-- ILLEGAL.OPA (R87, R201). -/
def execIllegalOpA (kind : BitVec 4) (len : BitVec 24) (s : State) :
    Host.Outcome State Fault Refusal :=
  startCommand .illegal (commandWord 0xA kind len) s

/-- ILLEGAL.OPB (R87, R201). -/
def execIllegalOpB (kind : BitVec 4) (len : BitVec 24) (s : State) :
    Host.Outcome State Fault Refusal :=
  startCommand .illegal (commandWord 0xB kind len) s

/-- ILLEGAL.OPC (R87, R201). -/
def execIllegalOpC (kind : BitVec 4) (len : BitVec 24) (s : State) :
    Host.Outcome State Fault Refusal :=
  startCommand .illegal (commandWord 0xC kind len) s

/-- ILLEGAL.OPD (R87, R201). -/
def execIllegalOpD (kind : BitVec 4) (len : BitVec 24) (s : State) :
    Host.Outcome State Fault Refusal :=
  startCommand .illegal (commandWord 0xD kind len) s

/-- ILLEGAL.OPE (R87, R201). -/
def execIllegalOpE (kind : BitVec 4) (len : BitVec 24) (s : State) :
    Host.Outcome State Fault Refusal :=
  startCommand .illegal (commandWord 0xE kind len) s

/-- ILLEGAL.OPF (R87, R201). -/
def execIllegalOpF (kind : BitVec 4) (len : BitVec 24) (s : State) :
    Host.Outcome State Fault Refusal :=
  startCommand .illegal (commandWord 0xF kind len) s

end Sys2Proof.Machine
end

