-- ==== Sys2Proof/Machine/Dispatch.lean ====
section
/-!
DEFINITION. The dispatch of every instruction to its meaning, in the order of the opcode table.
-/
namespace Sys2Proof.Machine

open Sys2Proof

def exec (i : Instr) (s : State) : Host.Outcome State Fault Refusal :=
  match i with
  | .observeBit sym => Sys2Proof.Machine.execObserveBit sym s
  | .nop kind len => Sys2Proof.Machine.execNop kind len s
  | .frameVoice len => Sys2Proof.Machine.execFrameVoice len s
  | .frameText len => Sys2Proof.Machine.execFrameText len s
  | .frameVideo len => Sys2Proof.Machine.execFrameVideo len s
  | .frameData len => Sys2Proof.Machine.execFrameData len s
  | .frameCallsign len => Sys2Proof.Machine.execFrameCallsign len s
  | .frameRepinfo len => Sys2Proof.Machine.execFrameRepinfo len s
  | .bulkVoice len => Sys2Proof.Machine.execBulkVoice len s
  | .bulkText len => Sys2Proof.Machine.execBulkText len s
  | .bulkVideo len => Sys2Proof.Machine.execBulkVideo len s
  | .bulkData len => Sys2Proof.Machine.execBulkData len s
  | .bulkCallsign len => Sys2Proof.Machine.execBulkCallsign len s
  | .bulkRepinfo len => Sys2Proof.Machine.execBulkRepinfo len s
  | .preamble => Sys2Proof.Machine.execPreamble s
  | .endMarker => Sys2Proof.Machine.execEndMarker s
  | .illegalFrameKind0 len => Sys2Proof.Machine.execIllegalFrameKind0 len s
  | .illegalFrameKind7 len => Sys2Proof.Machine.execIllegalFrameKind7 len s
  | .illegalFrameKind8 len => Sys2Proof.Machine.execIllegalFrameKind8 len s
  | .illegalFrameKind9 len => Sys2Proof.Machine.execIllegalFrameKind9 len s
  | .illegalFrameKindA len => Sys2Proof.Machine.execIllegalFrameKindA len s
  | .illegalFrameKindB len => Sys2Proof.Machine.execIllegalFrameKindB len s
  | .illegalFrameKindC len => Sys2Proof.Machine.execIllegalFrameKindC len s
  | .illegalFrameKindD len => Sys2Proof.Machine.execIllegalFrameKindD len s
  | .illegalFrameKindE len => Sys2Proof.Machine.execIllegalFrameKindE len s
  | .illegalFrameKindF len => Sys2Proof.Machine.execIllegalFrameKindF len s
  | .illegalBulkKind0 len => Sys2Proof.Machine.execIllegalBulkKind0 len s
  | .illegalBulkKind7 len => Sys2Proof.Machine.execIllegalBulkKind7 len s
  | .illegalBulkKind8 len => Sys2Proof.Machine.execIllegalBulkKind8 len s
  | .illegalBulkKind9 len => Sys2Proof.Machine.execIllegalBulkKind9 len s
  | .illegalBulkKindA len => Sys2Proof.Machine.execIllegalBulkKindA len s
  | .illegalBulkKindB len => Sys2Proof.Machine.execIllegalBulkKindB len s
  | .illegalBulkKindC len => Sys2Proof.Machine.execIllegalBulkKindC len s
  | .illegalBulkKindD len => Sys2Proof.Machine.execIllegalBulkKindD len s
  | .illegalBulkKindE len => Sys2Proof.Machine.execIllegalBulkKindE len s
  | .illegalBulkKindF len => Sys2Proof.Machine.execIllegalBulkKindF len s
  | .illegalPreamble kind len => Sys2Proof.Machine.execIllegalPreamble kind len s
  | .illegalEndMarker kind len => Sys2Proof.Machine.execIllegalEndMarker kind len s
  | .illegalOp5 kind len => Sys2Proof.Machine.execIllegalOp5 kind len s
  | .illegalOp6 kind len => Sys2Proof.Machine.execIllegalOp6 kind len s
  | .illegalOp7 kind len => Sys2Proof.Machine.execIllegalOp7 kind len s
  | .illegalOp8 kind len => Sys2Proof.Machine.execIllegalOp8 kind len s
  | .illegalOp9 kind len => Sys2Proof.Machine.execIllegalOp9 kind len s
  | .illegalOpA kind len => Sys2Proof.Machine.execIllegalOpA kind len s
  | .illegalOpB kind len => Sys2Proof.Machine.execIllegalOpB kind len s
  | .illegalOpC kind len => Sys2Proof.Machine.execIllegalOpC kind len s
  | .illegalOpD kind len => Sys2Proof.Machine.execIllegalOpD kind len s
  | .illegalOpE kind len => Sys2Proof.Machine.execIllegalOpE kind len s
  | .illegalOpF kind len => Sys2Proof.Machine.execIllegalOpF kind len s
  | .rdCtrl => Sys2Proof.Machine.execRdCtrl s
  | .rdRxProfile => Sys2Proof.Machine.execRdRxProfile s
  | .rdTxProfile => Sys2Proof.Machine.execRdTxProfile s
  | .rdStatus => Sys2Proof.Machine.execRdStatus s
  | .rdDiag => Sys2Proof.Machine.execRdDiag s
  | .rdBitIndex => Sys2Proof.Machine.execRdBitIndex s
  | .rdShiftReg => Sys2Proof.Machine.execRdShiftReg s
  | .rdErrInfo => Sys2Proof.Machine.execRdErrInfo s
  | .rdRxGeom => Sys2Proof.Machine.execRdRxGeom s
  | .rdTxGeom => Sys2Proof.Machine.execRdTxGeom s
  | .wrCtrl v => Sys2Proof.Machine.execWrCtrl v s
  | .wrRxProfile v => Sys2Proof.Machine.execWrRxProfile v s
  | .wrTxProfile v => Sys2Proof.Machine.execWrTxProfile v s
  | .wrStatus v => Sys2Proof.Machine.execWrStatus v s
  | .wrDiag v => Sys2Proof.Machine.execWrDiag v s
  | .wrBitIndex v => Sys2Proof.Machine.execWrBitIndex v s
  | .wrShiftReg v => Sys2Proof.Machine.execWrShiftReg v s
  | .wrErrInfo v => Sys2Proof.Machine.execWrErrInfo v s
  | .wrRxGeom v => Sys2Proof.Machine.execWrRxGeom v s
  | .wrTxGeom v => Sys2Proof.Machine.execWrTxGeom v s
  | .rdReserved0A0B x => Sys2Proof.Machine.execRdReserved0A0B x s
  | .rdReserved0C0F x => Sys2Proof.Machine.execRdReserved0C0F x s
  | .rdReserved101F x => Sys2Proof.Machine.execRdReserved101F x s
  | .rdReserved203F x => Sys2Proof.Machine.execRdReserved203F x s
  | .rdReserved407F x => Sys2Proof.Machine.execRdReserved407F x s
  | .rdReserved80FF x => Sys2Proof.Machine.execRdReserved80FF x s
  | .wrReserved0A0B x v => Sys2Proof.Machine.execWrReserved0A0B x v s
  | .wrReserved0C0F x v => Sys2Proof.Machine.execWrReserved0C0F x v s
  | .wrReserved101F x v => Sys2Proof.Machine.execWrReserved101F x v s
  | .wrReserved203F x v => Sys2Proof.Machine.execWrReserved203F x v s
  | .wrReserved407F x v => Sys2Proof.Machine.execWrReserved407F x v s
  | .wrReserved80FF x v => Sys2Proof.Machine.execWrReserved80FF x v s
  | .pushc c => Sys2Proof.Machine.execPushc c s
  | .pushb b => Sys2Proof.Machine.execPushb b s
  | .pope => Sys2Proof.Machine.execPope s

end Sys2Proof.Machine
end

