-- ==== Sys2Proof/Machine/Step.lean ====
section
/-!
DEFINITION. One step of the machine: the next turn of the schedule is spent; if its agent has an item
to run, the item is decoded and executed; otherwise the agent takes its own step or holds (R7, R264,
D36). With no turn left no agent takes a step.
-/
namespace Sys2Proof.Machine

open Sys2Proof

/-- One step (R7, R68). -/
def step (s : State) : Host.Outcome State Fault Refusal :=
  match s.env.schedule with
  | [] => .next s
  | t :: _ =>
    match fetch t s with
    | some it => exec (decode it) s.dropTurn
    | none => ownTurn t s.dropTurn

/-- `s` with one item placed where the next step runs it, and what that takes (assumption 11): a
symbol at the port, RX_EN and free event slots (R120); a command at the head of the queue of an idle
engine, and TX_EN (R190); an access at the head of the host's operations. The turn of its agent comes
next. A width that is no item's changes nothing. -/
def State.withFetchWord (s : State) (nbits w : Nat) : State :=
  match itemOfBits nbits w with
  | .ok (.rxsym sym) =>
    { s with
      ctl := { s.ctl with rxEn := true }
      rx := { s.rx with eventQueue :=
        if 3 ≤ s.build.evtDepth - s.rx.eventQueue.length then s.rx.eventQueue else [] }
      env := { s.env with rxPort := some sym, schedule := .rx :: s.env.schedule } }
  | .ok (.cmd c) =>
    { s with
      ctl := { s.ctl with txEn := true }
      tx := { s.tx with
        engine := .idle, cmdQueue := c :: s.tx.cmdQueue.take (s.build.cmdDepth - 1) }
      env := { s.env with schedule := .tx :: s.env.schedule } }
  | .ok (.host op) =>
    { s with env := { s.env with
        hostProg := op :: s.env.hostProg, schedule := .host :: s.env.schedule } }
  | .error _ => s

end Sys2Proof.Machine
end

