-- ==== Sys2Proof/Safety.lean ====
section
/-!
DEFINITION. The invariant of a block in use, and the words the claims are stated in: runs of one
engine, bits on the line, and the spec's tables of output bytes and event records.
-/
namespace Sys2Proof.Machine

open Sys2Proof

/-! The invariant -/

/-- The event codes whose records carry no payload (R94). -/
def noPayloadCodes : List EventCode :=
  [.controlFrameReceived, .audioFrameReceived, .endOfContinuousTransmission, .receiveEnded]

/-- A record as the dispatcher makes them (R92, R94, R177, R180). -/
abbrev eventOk (cap : Nat) (e : Event) : Prop :=
  e.bytes.length ≤ cap / 8
    ∧ (e.code ∈ noPayloadCodes → e.bytes = [])
    ∧ (if e.code = .relayRequest then e.kind ∈ [FrameKind.text, .callsign, .voice]
        else e.kind = .none)

/-- The sync fields agree with each other and with the profile (R23, R24, R144, R179). -/
abbrev syncOk (p : Profile) (r : RxState) : Prop :=
  if r.syncFound then
    r.currentFrameKind ∈ (matchList p.family).map SyncPattern.kind
      ∧ r.bitIndex.toNat < target r.currentFrameKind p
      ∧ ∀ i < r.bitIndex.toNat, r.bitBuf.holds i = true
  else r.currentFrameKind = .none ∧ r.bitIndex = 0

/-- The RX engine's part of the invariant. -/
abbrev rxOk (b : Build) (r : RxState) : Prop :=
  (match profileAt b r.rxProfile with
    | some p => syncOk p r
    | none => False)
    ∧ r.bitBuf.wf
    ∧ (∀ c ∈ r.bitBuf, c.1 < capMax b)
    ∧ r.lastFrameKind ≠ .endOfTx
    ∧ r.eventQueue.length ≤ b.evtDepth
    ∧ ∀ e ∈ r.eventQueue, eventOk (capMax b) e

/-- A running command: its latched profile exists, it needs at most LEN more payload bytes, and its
output list is within R196's bound. -/
abbrev jobOk (b : Build) (j : TxJob) : Prop :=
  match profileAt b j.latched with
  | some p => j.need ≤ (lenOf j.cmd).toNat
      ∧ j.outList.length ≤ max (2 * p.payloadBytes) (p.payloadBytes + 3)
  | none => False

/-- The TX engine's part of the invariant. -/
abbrev txOk (b : Build) (t : TxState) : Prop :=
  legalIndex b t.txProfile = true
    ∧ t.cmdQueue.length ≤ b.cmdDepth
    ∧ t.payQueue.length ≤ b.payDepth
    ∧ match t.engine with
      | .idle => True
      | .busy j => jobOk b j

/-- The invariant of a block in use. -/
abbrev Inv (s : State) : Prop :=
  buildValid s.build = true ∧ rxOk s.build s.rx ∧ txOk s.build s.tx

/-! Bits on the line -/

/-- The symbol that carries a bit (R103, RXBITS). -/
def symbolOf (b : Bool) : Byte := if b then 0x01 else 0x00

/-- The bits of a byte, bit 7 first (R62, R64, R103). -/
def bitsOfByte (b : Byte) : List Bool := (List.range 8).map (fun i => b.getLsbD (7 - i))

/-- The symbols of a byte sequence, in transmission order (R103, RXBYTES). -/
def symbolsOf (bytes : List Byte) : List Byte := (bytes.flatMap bitsOfByte).map symbolOf

/-- OBSERVE_BIT on each symbol in turn. -/
def feed : List Byte → State → Host.Outcome State Fault Refusal
  | [], s => .next s
  | sym :: rest, s =>
    match exec (.observeBit sym) s with
    | .next t => feed rest t
    | .fault f => .fault f
    | .refused r => .refused r

/-- `n` turns of a TX engine that runs no new item. -/
def txTurns : Nat → State → Host.Outcome State Fault Refusal
  | 0, s => .next s
  | n + 1, s =>
    match ownTurn .tx s with
    | .next t => txTurns n t
    | .fault f => .fault f
    | .refused r => .refused r

/-! The spec's tables -/

/-- A record with no relayed kind. -/
def plainRecord (code : EventCode) (bytes : List Byte) : Event :=
  { code := code, kind := .none, bytes := bytes }

/-- The RELAY_REQUEST record, if relay is enabled. -/
def relayRecord (relayEn : Bool) (kind : FrameKind) (bytes : List Byte) : List Event :=
  if relayEn then [{ code := .relayRequest, kind := kind, bytes := bytes }] else []

/-- R161's table: the records of one frame of kind `k`, in order; `a` is the codec frame of R168.
The byte 0x0A is PRESUMED (R162, G1; assumption 12). -/
def recordTable (k last : FrameKind) (relayEn : Bool) (fam : Family) (bytes : List Byte) :
    List Event :=
  let t := trim bytes
  let a := if fam = .f8 then bytes else bytes.tail
  match k with
  | .endOfTx =>
    (if last = .text then [plainRecord .textReceived [0x0A]]
      else if last ∈ [FrameKind.voice, .callsign, .video] then
        [plainRecord .endOfContinuousTransmission []]
      else []) ++ [plainRecord .receiveEnded []]
  | .text => [plainRecord .controlFrameReceived [], plainRecord .textReceived t]
      ++ relayRecord relayEn .text t
  | .callsign => [plainRecord .controlFrameReceived [], plainRecord .callsignReceived t]
      ++ relayRecord relayEn .callsign t
  | .repeaterInfo =>
    [plainRecord .controlFrameReceived [], plainRecord .repeaterInfoReceived bytes]
  | .voice => [plainRecord .audioFrameReceived [], plainRecord .digitalAudio a]
      ++ relayRecord relayEn .voice a
  | .video => [plainRecord .controlFrameReceived [], plainRecord .videoData bytes]
  | .data => [plainRecord .netData bytes]
  | .none => []

/-- `n` chunks of `fl` bytes of the payload, the last zero-padded, each after `pre` (R197, closed
form). -/
def bulkFrames (pre : List Byte) (fl : Nat) : Nat → List Byte → List Byte
  | 0, _ => []
  | n + 1, payload =>
    pre ++ payload.take fl ++ List.replicate (fl - payload.length) 0x00
      ++ bulkFrames pre fl n (payload.drop fl)

/-- The whole output of a command with payload `payload`, in closed form (R193 to R201). -/
def commandOutput (d : TxCmd) (p : Profile) (payload : List Byte) : List Byte :=
  match d with
  | .nop => []
  | .frame k => framePrefix k p.family ++ payload
  | .bulk k => bulkFrames (framePrefix k p.family) p.payloadBytes
      ((payload.length + p.payloadBytes - 1) / p.payloadBytes) payload
  | .preamble => List.replicate (2 * p.payloadBytes) (if p.family = .f8 then 0xB5 else 0xED)
  | .endMarker => [0x4C, 0x8A, 0x2B] ++ List.replicate p.payloadBytes 0x01
  | .illegal => []

end Sys2Proof.Machine
end

