-- ==== Sys2Proof/Certificates/Slice0/Obligations.lean ====
section
/-!
DEFINITION. The statements for the provers, from the spec's numbered rules.
-/
open Sys2Proof Sys2Proof.Machine

/-! Reset and invariant -/

/-- R48, R281: what reset leaves, for every build. -/
def Obligations.ResetLeavesEveryBlockFieldAtItsValue : Prop :=
  ∀ b : Build, let s := State.resetWith b
    s.rx.rxProfile = 0 ∧ s.tx.txProfile = 0
    ∧ s.ctl.rxEn = false ∧ s.ctl.txEn = false ∧ s.ctl.relayEn = false
    ∧ s.rx.shiftRegister = 0 ∧ s.rx.syncFound = false ∧ s.rx.currentFrameKind = .none
    ∧ s.rx.bitIndex = 0 ∧ s.rx.lastFrameKind = .none ∧ s.rx.diagCounter = 0
    ∧ s.rx.eventQueue = [] ∧ s.tx.cmdQueue = [] ∧ s.tx.payQueue = []
    ∧ s.tx.engine = .idle ∧ s.ctl.cfgErr = false ∧ s.ctl.cmdErr = false ∧ s.ctl.errInfo = 0

/-- R10, R11, R32, R265: a build is accepted exactly when its parameters are valid, and the block it
gives meets the invariant. R265 refuses an invalid table only; that a build is refused for its depths
is the model's choice (assumption 8). -/
def Obligations.AcceptedBuildsMeetTheInvariant : Prop :=
  ∀ b : Build,
    (buildValid b = true → ∃ s, powerOn b = .next s ∧ s.build = b ∧ Inv s)
    ∧ (buildValid b = false → powerOn b = .refused .invalidBuild)

/-- Which builds are valid, written out: the table's constraints are R11's, the depths' those of R10
and R32. Any other build is refused: for an invalid table R265 says so; for a depth no rule does, and
it is the model's choice (assumption 8). -/
def Obligations.ValidBuildsAreThoseOfTheTableRules : Prop :=
  ∀ b : Build, (buildValid b = false → powerOn b = .refused .invalidBuild)
    ∧ (buildValid b = true ↔
    (1 ≤ b.profiles.length ∧ b.profiles.length ≤ 256)
    ∧ (∀ p ∈ b.profiles, p.payloadBytes ≤ 65535
        ∧ (p.family = .f8 → 1 ≤ p.payloadBytes)
        ∧ (p.family = .std ∨ p.family = .high → 2 ≤ p.payloadBytes))
    ∧ (∀ i j : Nat, ∀ p q : Profile, b.profiles[i]? = some p → b.profiles[j]? = some q →
        p.family = .f8 → q.family = .f8 → i = j)
    ∧ 3 ≤ b.evtDepth ∧ 1 ≤ b.cmdDepth ∧ 1 ≤ b.payDepth)

/-- The default build meets the invariant at reset; its depths are the model's choice
(assumption 8). -/
def Obligations.ResetMeetsTheInvariant : Prop := Inv State.reset

/-- Every step keeps the invariant. -/
def Obligations.EveryStepKeepsTheInvariant : Prop :=
  ∀ s t : State, Inv s → step s = .next t → Inv t

/-- R250: from a state that meets the invariant, no step stops. -/
def Obligations.NoStepStopsUnderTheInvariant : Prop :=
  ∀ s : State, Inv s → ∃ t, step s = .next t

/-- R147: the target lies between 8 bits and the profile's capacity, and is a whole number of
bytes. -/
def Obligations.TargetLiesBetweenOneByteAndCapacity : Prop :=
  ∀ (b : Build) (p : Profile) (k : FrameKind), buildValid b = true → p ∈ b.profiles →
    8 ≤ target k p ∧ target k p ≤ bitBufferCapacity p ∧ bitBufferCapacity p ≤ capMax b
    ∧ 8 ∣ target k p ∧ target k p < 2 ^ 20

/-- R141: the target, case by case. -/
def Obligations.TargetIsTheRuleOfTheSource : Prop :=
  ∀ (k : FrameKind) (pl : Nat),
    target k ⟨pl, .f8⟩ = pl * 8
    ∧ (∀ fam, fam ≠ Family.f8 → target .voice ⟨pl, fam⟩ = pl * 8 + 8)
    ∧ (∀ fam, fam ≠ Family.f8 → k ≠ .voice → target k ⟨pl, fam⟩ = pl * 8 - 8)

/-! Encoding -/

/-- Decoding an encoded instruction gives it back. -/
def Obligations.DecodeOfEncodeIsTheInstruction : Prop :=
  ∀ i : Instr, i.wellFormed = true → decode (encode i) = i

/-- Encoding a decoded item gives it back; the data word of a read is not an input, and encodes as 0
(assumption 16). -/
def Obligations.EncodeOfDecodeIsTheItem : Prop :=
  ∀ it : Item, encode (decode it) =
    match it with
    | .host (.access w data) => .host (.access w (if w.getLsbD 8 then data else 0))
    | other => other

/-- Every item decodes to a row of the table. -/
def Obligations.EveryItemDecodesToAWellFormedInstruction : Prop :=
  ∀ it : Item, (decode it).wellFormed = true

/-- R104: `decode(c)`, clause by clause. -/
def Obligations.CommandDecodeFollowsTheRule : Prop :=
  ∀ c : Word,
    let op := (c.extractLsb' 28 4).toNat
    let k := (c.extractLsb' 24 4).toNat
    let len := (c.extractLsb' 0 24).toNat
    let kinds : List TxKind := [.voice, .text, .video, .data, .callsign, .repinfo]
    (op = 0 → TxCmd.ofWord c = .nop)
    ∧ (op = 1 → 1 ≤ k → k ≤ 6 → ∃ x, kinds[k - 1]? = some x ∧ TxCmd.ofWord c = .frame x)
    ∧ (op = 2 → 1 ≤ k → k ≤ 6 → ∃ x, kinds[k - 1]? = some x ∧ TxCmd.ofWord c = .bulk x)
    ∧ (op = 3 → k = 0 → len = 0 → TxCmd.ofWord c = .preamble)
    ∧ (op = 4 → k = 0 → len = 0 → TxCmd.ofWord c = .endMarker)
    ∧ (¬ op = 0 → ¬ ((op = 1 ∨ op = 2) ∧ 1 ≤ k ∧ k ≤ 6)
        → ¬ ((op = 3 ∨ op = 4) ∧ k = 0 ∧ len = 0) → TxCmd.ofWord c = .illegal)

/-- R190: the meaning of a command word's row is TX-START of what `decode` gives for that word. -/
def Obligations.CommandMeaningsAgreeWithDecode : Prop :=
  ∀ (c : Word) (s : State), exec (decodeCommand c) s = startCommand (TxCmd.ofWord c) c s

/-- R87, R98, R81: a few words of each format, as the spec writes them; the widths by which raw
numbers are sorted are the model's choice (assumption 10). -/
def Obligations.SampleWordsDecodeAsTheTableSays : Prop :=
  decodeTableWord 8 0xB5 = some (.observeBit 0xB5)
  ∧ decodeTableWord 32 0x12000007 = some (.frameText 7)
  ∧ decodeTableWord 32 0x2200001A = some (.bulkText 26)
  ∧ decodeTableWord 32 0x27000002 = some (.illegalBulkKind7 2)
  ∧ decodeTableWord 32 0x30000001 = some (.illegalPreamble 0 1)
  ∧ decodeTableWord 16 0x103 = some (.wrStatus 0)
  ∧ decodeTableWord 16 0x003 = some .rdStatus
  ∧ decodeTableWord 16 0x03F = some (.rdReserved203F 0x1F)

/-! Steps -/

/-- A step runs the decoded instruction: the turn is spent, and the item of that turn's agent is
decoded and executed. The schedule is the model's choice (assumption 1). -/
def Obligations.AStepRunsTheDecodedItem : Prop :=
  (∀ (s : State) (rest : List Turn) (sym : Byte),
    s.env.schedule = .rx :: rest → s.env.rxPort = some sym →
    step s = exec (decode (.rxsym sym)) { s with env := { s.env with schedule := rest } })
  ∧ (∀ (s : State) (rest : List Turn) (c : Word) (cs : List Word),
    s.env.schedule = .tx :: rest → s.tx.engine = .idle → s.tx.cmdQueue = c :: cs →
    step s = exec (decode (.cmd c)) { s with env := { s.env with schedule := rest } })
  ∧ (∀ (s : State) (rest : List Turn) (op : HostOp) (ops : List HostOp),
    s.env.schedule = .host :: rest → s.env.hostProg = op :: ops →
    step s = exec (decode (.host op)) { s with env := { s.env with schedule := rest } })

/-- Whose turn does what when no item runs. Without a turn nothing happens; an agent with nothing to
do takes no step (R264); the bit source's turn puts its next symbol on a free port (R78), and the
byte sink's turn sets whether it is ready (R215). The turns are the model's choice (assumptions 1, 2,
4 and 5). -/
def Obligations.TurnsThatRunNoItem : Prop :=
  (∀ s : State, s.env.schedule = [] → step s = .next s)
  ∧ (∀ (s : State) (t : Turn) (rest : List Turn), s.env.schedule = t :: rest →
      ((t = .rx ∧ s.env.rxPort = none)
        ∨ (t = .tx ∧ s.tx.engine = .idle ∧ s.tx.cmdQueue = [])
        ∨ (t = .host ∧ s.env.hostProg = [])
        ∨ (t = .bitSource ∧ s.env.rxPort.isSome = true)
        ∨ (t = .bitSource ∧ s.env.symbols = [])) →
      step s = .next { s with env := { s.env with schedule := rest } })
  ∧ (∀ (s : State) (rest : List Turn) (sym : Byte) (syms : List Byte),
    s.env.schedule = .bitSource :: rest → s.env.rxPort = none → s.env.symbols = sym :: syms →
    step s = .next { s with env := { s.env with
      schedule := rest, rxPort := some sym, symbols := syms } })
  ∧ (∀ (s : State) (rest : List Turn) (ready : Bool),
    s.env.schedule = .byteSink ready :: rest →
    step s = .next { s with env := { s.env with schedule := rest, sinkReady := ready } })

/-- R280: a reset turn sets every block variable to its reset value and leaves the agents outside
the block as they are. That reset is a turn is the model's choice (assumption 14). -/
def Obligations.TheResetLineResetsTheBlockOnly : Prop :=
  ∀ (s : State) (rest : List Turn), s.env.schedule = .resetLine :: rest →
    ∃ t, step s = .next t
      ∧ t.build = s.build ∧ t.env = { s.env with schedule := rest }
      ∧ t.rx.eventQueue = [] ∧ t.tx.cmdQueue = [] ∧ t.tx.payQueue = [] ∧ t.tx.engine = .idle
      ∧ t.rx.rxProfile = 0 ∧ t.tx.txProfile = 0
      ∧ t.ctl.rxEn = false ∧ t.ctl.txEn = false ∧ t.ctl.relayEn = false
      ∧ t.ctl.cfgErr = false ∧ t.ctl.cmdErr = false ∧ t.ctl.errInfo = 0
      ∧ t.rx.shiftRegister = 0 ∧ t.rx.syncFound = false ∧ t.rx.currentFrameKind = .none
      ∧ t.rx.bitIndex = 0 ∧ t.rx.lastFrameKind = .none ∧ t.rx.diagCounter = 0

/-! The RX step -/

/-- R120, R240: while RX_EN is 0 or fewer than 3 event slots are free, the symbol is not consumed
and nothing changes. -/
def Obligations.ObserveBitHoldsWhenNotEnabled : Prop :=
  ∀ (sym : Byte) (s : State),
    s.ctl.rxEn = false ∨ s.build.evtDepth < s.rx.eventQueue.length + 3 →
    exec (.observeBit sym) s = .next s

/-- R82: every symbol value is an RX symbol, and symbols that agree in bit 0 behave identically. -/
def Obligations.SymbolsThatAgreeInBitZeroBehaveIdentically : Prop :=
  ∀ (x y : Byte) (s : State), decode (.rxsym x) = .observeBit x
    ∧ (x.getLsbD 0 = y.getLsbD 0 → exec (.observeBit x) s = exec (.observeBit y) s)

/-- R85, R125: the match of each family, pattern by pattern in check order. -/
def Obligations.MatchFollowsTheSyncWordTable : Prop :=
  ∀ sr : BitVec 24,
    matchKind sr .f8 =
      (if sr.toNat % 2 ^ 8 = 0xB5 then .voice
        else if sr.toNat = 0x4C8A2B then .endOfTx else .none)
    ∧ matchKind sr .std =
      (if sr.toNat % 2 ^ 16 = 0xED89 then .voice
        else if sr.toNat = 0x89EDAA then .text
        else if sr.toNat = 0xED77AA then .repeaterInfo
        else if sr.toNat = 0x98DEAA then .video
        else if sr.toNat = 0x8CC8DD then .callsign
        else if sr.toNat = 0xDE98AA then .data
        else if sr.toNat = 0x4C8A2B then .endOfTx else .none)
    ∧ matchKind sr .high =
      (if sr.toNat = 0xDE98AA then .data
        else if sr.toNat = 0x4C8A2B then .endOfTx else .none)

/-- R128: at most one entry of a MatchList can match a given register value. -/
def Obligations.SyncPatternsAreDisjoint : Prop :=
  ∀ (fam : Family) (sr : BitVec 24) (q r : SyncPattern),
    q ∈ matchList fam → r ∈ matchList fam → q.hits sr = true → r.hits sr = true → q = r

/-- R122 to R127: an accepted symbol while unsynchronised. -/
def Obligations.UnsynchronisedStepShiftsCountsAndCompares : Prop :=
  ∀ (sym : Byte) (s : State) (p : Profile),
    s.ctl.rxEn = true → s.rx.eventQueue.length + 3 ≤ s.build.evtDepth →
    profileAt s.build s.rx.rxProfile = some p → s.rx.syncFound = false →
    ∃ t, exec (.observeBit sym) s = .next t
      ∧ t.rx.diagCounter.toNat = min (s.rx.diagCounter.toNat + 1) 255
      ∧ t.rx.shiftRegister.toNat
          = (2 * s.rx.shiftRegister.toNat + sym.toNat % 2) % 2 ^ 24
      ∧ (if matchKind t.rx.shiftRegister p.family = .none then
          t.rx.syncFound = false ∧ t.rx.currentFrameKind = s.rx.currentFrameKind
            ∧ t.rx.bitIndex = s.rx.bitIndex
        else t.rx.syncFound = true ∧ t.rx.bitIndex = 0
            ∧ t.rx.currentFrameKind = matchKind t.rx.shiftRegister p.family)
      ∧ t.rx.rxProfile = s.rx.rxProfile ∧ t.rx.bitBuf = s.rx.bitBuf
      ∧ t.rx.lastFrameKind = s.rx.lastFrameKind ∧ t.rx.eventQueue = s.rx.eventQueue
      ∧ t.build = s.build ∧ t.tx = s.tx ∧ t.ctl = s.ctl
      ∧ t.env = { s.env with rxPort := none }

/-- R122, R123, R124, R140: an accepted symbol while synchronised that does not complete the
frame. -/
def Obligations.SynchronisedStepStoresTheBit : Prop :=
  ∀ (sym : Byte) (s : State) (p : Profile),
    s.ctl.rxEn = true → s.rx.eventQueue.length + 3 ≤ s.build.evtDepth →
    profileAt s.build s.rx.rxProfile = some p → s.rx.syncFound = true →
    s.rx.bitIndex.toNat < capMax s.build → s.rx.bitIndex.toNat + 1 < 2 ^ 20 →
    s.rx.bitIndex.toNat + 1 ≠ target s.rx.currentFrameKind p →
    ∃ t, exec (.observeBit sym) s = .next t
      ∧ t.rx.diagCounter.toNat = s.rx.diagCounter.toNat - 1
      ∧ t.rx.shiftRegister.toNat
          = (2 * s.rx.shiftRegister.toNat + sym.toNat % 2) % 2 ^ 24
      ∧ t.rx.bitIndex.toNat = s.rx.bitIndex.toNat + 1
      ∧ BitBuf.read t.rx.bitBuf s.rx.bitIndex.toNat = sym.getLsbD 0
      ∧ (∀ i, i ≠ s.rx.bitIndex.toNat → BitBuf.read t.rx.bitBuf i = BitBuf.read s.rx.bitBuf i)
      ∧ t.rx.syncFound = true ∧ t.rx.currentFrameKind = s.rx.currentFrameKind
      ∧ t.rx.rxProfile = s.rx.rxProfile
      ∧ t.rx.lastFrameKind = s.rx.lastFrameKind ∧ t.rx.eventQueue = s.rx.eventQueue
      ∧ t.build = s.build ∧ t.tx = s.tx ∧ t.ctl = s.ctl
      ∧ t.env = { s.env with rxPort := none }

/-- R122, R140, R145, R146, R161, R171, R181: the symbol that completes a frame packs it, appends all
its records and resets sync. For an End frame after a Text frame `recordTable` fixes the byte of the
first record at 0x0A; R162 marks that value as general knowledge, not in the source (G1), so that
clause is PRESUMED (assumption 12). -/
def Obligations.CompletingStepDispatchesTheFrame : Prop :=
  ∀ (sym : Byte) (s : State) (p : Profile),
    s.ctl.rxEn = true → s.rx.eventQueue.length + 3 ≤ s.build.evtDepth →
    profileAt s.build s.rx.rxProfile = some p → s.rx.syncFound = true →
    s.rx.currentFrameKind ≠ .none →
    s.rx.bitIndex.toNat < capMax s.build → s.rx.bitIndex.toNat + 1 < 2 ^ 20 →
    s.rx.bitIndex.toNat + 1 = target s.rx.currentFrameKind p →
    ∃ t, exec (.observeBit sym) s = .next t
      ∧ BitBuf.read t.rx.bitBuf s.rx.bitIndex.toNat = sym.getLsbD 0
      ∧ (∀ i, i ≠ s.rx.bitIndex.toNat → BitBuf.read t.rx.bitBuf i = BitBuf.read s.rx.bitBuf i)
      ∧ t.rx.eventQueue = s.rx.eventQueue ++
          recordTable s.rx.currentFrameKind s.rx.lastFrameKind s.ctl.relayEn p.family
            (pack t.rx.bitBuf (target s.rx.currentFrameKind p))
      ∧ t.rx.lastFrameKind =
          (if s.rx.currentFrameKind = .endOfTx then s.rx.lastFrameKind
            else s.rx.currentFrameKind)
      ∧ t.rx.syncFound = false ∧ t.rx.currentFrameKind = .none ∧ t.rx.bitIndex = 0
      ∧ t.rx.shiftRegister = 0
      ∧ t.rx.diagCounter.toNat = s.rx.diagCounter.toNat - 1
      ∧ t.rx.rxProfile = s.rx.rxProfile
      ∧ t.build = s.build ∧ t.tx = s.tx ∧ t.ctl = s.ctl
      ∧ t.env = { s.env with rxPort := none }

/-- R62, R144: the first collected bit of each 8 is bit 7 of its byte. -/
def Obligations.PackingIsMsbFirst : Prop :=
  ∀ (m : BitBuf) (t : Nat),
    (pack m t).length = t / 8
    ∧ ∀ j i : Nat, ∀ b : Byte, (pack m t)[j]? = some b → i < 8 →
        b.getLsbD (7 - i) = BitBuf.read m (8 * j + i)

/-- R166: Trim removes the trailing zero bytes and nothing else. -/
def Obligations.TrimRemovesExactlyTheTrailingZeros : Prop :=
  ∀ bytes : List Byte,
    (∃ n, bytes = trim bytes ++ List.replicate n 0x00)
    ∧ (∀ b, (trim bytes).getLast? = some b → b ≠ 0x00)

/-- R182: one accepted symbol appends at most 3 records, and so never overfills the queue; R148: it
appends none unless a sync match came before it. -/
def Obligations.OneSymbolAppendsAtMostThreeRecords : Prop :=
  ∀ (sym : Byte) (s t : State), exec (.observeBit sym) s = .next t →
    ∃ l, t.rx.eventQueue = s.rx.eventQueue ++ l ∧ l.length ≤ 3
      ∧ (s.rx.syncFound = false → l = [])
      ∧ (l ≠ [] → t.rx.eventQueue.length ≤ s.build.evtDepth)

/-- R148: sync is found only by an RX step on an unsynchronised detector, and events are appended
only by an RX step on a synchronised one. -/
def Obligations.OnlyTheRxEngineFindsSyncOrAppendsRecords : Prop :=
  ∀ s t : State, step s = .next t →
    ((s.rx.syncFound = false → t.rx.syncFound = true → ∃ rest, s.env.schedule = .rx :: rest)
    ∧ (s.rx.eventQueue.length < t.rx.eventQueue.length →
        s.rx.syncFound = true ∧ ∃ rest, s.env.schedule = .rx :: rest))

/-- R262, R183: the RX step reads nothing of the TX engine, of TX_EN or of the error fields, and
writes none of them. -/
def Obligations.TheRxStepIgnoresTheTxSide : Prop :=
  ∀ (sym : Byte) (s : State) (tx : TxState) (txEn cfg cmd : Bool) (info : Word),
    exec (.observeBit sym)
      { s with tx := tx, ctl := { s.ctl with
          txEn := txEn, cfgErr := cfg, cmdErr := cmd, errInfo := info } }
    = match exec (.observeBit sym) s with
      | .next t => .next { t with tx := tx, ctl := { t.ctl with
          txEn := txEn, cfgErr := cfg, cmdErr := cmd, errInfo := info } }
      | .fault f => .fault f
      | .refused r => .refused r

/-- R140 to R146, R161: from a sync match, the target's worth of bits is one frame, delivered whole.
It covers End frames too: after a Text frame `recordTable` fixes their newline byte at 0x0A, which
R162 marks as general knowledge, not in the source (G1), so that clause is PRESUMED
(assumption 12). -/
def Obligations.AFrameIsCapturedWhole : Prop :=
  ∀ (s : State) (p : Profile) (bytes : List Byte),
    Inv s → s.ctl.rxEn = true → s.rx.eventQueue.length + 3 ≤ s.build.evtDepth →
    profileAt s.build s.rx.rxProfile = some p →
    s.rx.syncFound = true → s.rx.bitIndex = 0 →
    8 * bytes.length = target s.rx.currentFrameKind p →
    ∃ t, feed (symbolsOf bytes) s = .next t
      ∧ t.rx.eventQueue = s.rx.eventQueue ++
          recordTable s.rx.currentFrameKind s.rx.lastFrameKind s.ctl.relayEn p.family bytes
      ∧ t.rx.syncFound = false ∧ t.rx.shiftRegister = 0
      ∧ t.rx.lastFrameKind =
          (if s.rx.currentFrameKind = .endOfTx then s.rx.lastFrameKind
            else s.rx.currentFrameKind)
      ∧ t.tx = s.tx ∧ t.ctl = s.ctl

/-- The FrameKind of a transmit kind (R84). -/
def Claims.kindOfTx : TxKind → FrameKind
  | .voice => .voice
  | .text => .text
  | .video => .video
  | .data => .data
  | .callsign => .callsign
  | .repinfo => .repeaterInfo

/-- R207: a frame built by FRAME comes out of a fresh receiver of the same profile as its payload,
for each kind the profile's family recognises: Voice with the frame length as payload length (on STD
the packed frame has the start marker in front), every other kind with one byte less. -/
def Obligations.AFramedPayloadRoundTrips : Prop :=
  ∀ (s : State) (p : Profile) (k : TxKind) (payload : List Byte),
    Inv s → s.ctl.rxEn = true → s.rx.eventQueue.length + 3 ≤ s.build.evtDepth →
    profileAt s.build s.rx.rxProfile = some p →
    (p.family = .f8 → k = .voice) → (p.family = .high → k = .data) →
    s.rx.syncFound = false → s.rx.shiftRegister = 0 →
    payload.length = (if k = .voice then p.payloadBytes else p.payloadBytes - 1) →
    ∃ t, feed (symbolsOf (commandOutput (.frame k) p payload)) s = .next t
      ∧ t.rx.eventQueue = s.rx.eventQueue
          ++ recordTable (Claims.kindOfTx k) s.rx.lastFrameKind s.ctl.relayEn p.family
            (if p.family = .std ∧ k = .voice then 0xAA :: payload else payload)
      ∧ t.rx.syncFound = false ∧ t.rx.shiftRegister = 0
      ∧ t.rx.lastFrameKind = Claims.kindOfTx k

/-! The TX engine -/

/-- The FRAME rows: constructor, first 8 bits of the word, Prefix on F8, Prefix on STD and HIGH. -/
def Claims.frameRows : List ((BitVec 24 → Instr) × BitVec 8 × List Byte × List Byte) :=
  [(.frameVoice, 0x11, [0xB5], [0xED, 0x89, 0xAA]),
   (.frameText, 0x12, [0x89, 0xED], [0x89, 0xED, 0xAA]),
   (.frameVideo, 0x13, [0x98, 0xDE], [0x98, 0xDE, 0xAA]),
   (.frameData, 0x14, [0xDE, 0x98], [0xDE, 0x98, 0xAA]),
   (.frameCallsign, 0x15, [0x8C, 0xC8, 0xDD], [0x8C, 0xC8, 0xDD]),
   (.frameRepinfo, 0x16, [0xED, 0x77], [0xED, 0x77, 0xAA])]

/-- The BULK rows: constructor and first 8 bits of the word. -/
def Claims.bulkRows : List ((BitVec 24 → Instr) × BitVec 8) :=
  [(.bulkVoice, 0x21), (.bulkText, 0x22), (.bulkVideo, 0x23), (.bulkData, 0x24),
   (.bulkCallsign, 0x25), (.bulkRepinfo, 0x26)]

/-- The illegal FRAME and BULK rows: constructor and first 8 bits of the word. -/
def Claims.illegalKindRows : List ((BitVec 24 → Instr) × BitVec 8) :=
  [(.illegalFrameKind0, 0x10), (.illegalFrameKind7, 0x17), (.illegalFrameKind8, 0x18),
   (.illegalFrameKind9, 0x19), (.illegalFrameKindA, 0x1A), (.illegalFrameKindB, 0x1B),
   (.illegalFrameKindC, 0x1C), (.illegalFrameKindD, 0x1D), (.illegalFrameKindE, 0x1E),
   (.illegalFrameKindF, 0x1F),
   (.illegalBulkKind0, 0x20), (.illegalBulkKind7, 0x27), (.illegalBulkKind8, 0x28),
   (.illegalBulkKind9, 0x29), (.illegalBulkKindA, 0x2A), (.illegalBulkKindB, 0x2B),
   (.illegalBulkKindC, 0x2C), (.illegalBulkKindD, 0x2D), (.illegalBulkKindE, 0x2E),
   (.illegalBulkKindF, 0x2F)]

/-- The other illegal rows: constructor and OP. -/
def Claims.illegalOpRows : List ((BitVec 4 → BitVec 24 → Instr) × BitVec 4) :=
  [(.illegalPreamble, 0x3), (.illegalEndMarker, 0x4), (.illegalOp5, 0x5), (.illegalOp6, 0x6),
   (.illegalOp7, 0x7), (.illegalOp8, 0x8), (.illegalOp9, 0x9), (.illegalOpA, 0xA),
   (.illegalOpB, 0xB), (.illegalOpC, 0xC), (.illegalOpD, 0xD), (.illegalOpE, 0xE),
   (.illegalOpF, 0xF)]

/-- What TX-START leaves of a state, but for the error fields: the word is popped, and the engine is
`Busy` with the command word, the profile index of the moment, `out` to offer and LEN bytes to
take (R190, R191). -/
def Claims.started (s : State) (word : Word) (len : BitVec 24) (out : List Byte) : State :=
  { s with tx := { s.tx with
      cmdQueue := s.tx.cmdQueue.tail
      engine := .busy ⟨word, s.tx.txProfile, out, len.toNat⟩ } }

/-- R190, R194, R95: FRAME starts with its Prefix on the output list. -/
def Obligations.FrameStartsWithItsPrefix : Prop :=
  ∀ row ∈ Claims.frameRows, ∀ (len : BitVec 24) (s : State) (p : Profile),
    s.tx.engine = .idle → s.ctl.txEn = true → profileAt s.build s.tx.txProfile = some p →
    exec (row.1 len) s = .next (Claims.started s (row.2.1 ++ len) len
      (if p.family = .f8 then row.2.2.1 else row.2.2.2))

/-- R190, R197: BULK starts with nothing on the output list. -/
def Obligations.BulkStartsWithNoOutput : Prop :=
  ∀ row ∈ Claims.bulkRows, ∀ (len : BitVec 24) (s : State) (p : Profile),
    s.tx.engine = .idle → s.ctl.txEn = true → profileAt s.build s.tx.txProfile = some p →
    exec (row.1 len) s = .next (Claims.started s (row.2 ++ len) len [])

/-- R190, R193: NOP starts with nothing on the output list and LEN bytes to discard. -/
def Obligations.NopStartsWithNoOutput : Prop :=
  ∀ (kind : BitVec 4) (len : BitVec 24) (s : State) (p : Profile),
    s.tx.engine = .idle → s.ctl.txEn = true → profileAt s.build s.tx.txProfile = some p →
    exec (.nop kind len) s = .next (Claims.started s (0#4 ++ kind ++ len) len [])

/-- R199: PREAMBLE puts twice the frame length of 0xB5 (F8) or 0xED on the output list. -/
def Obligations.PreambleOutputsTwiceTheFrameLength : Prop :=
  ∀ (s : State) (p : Profile),
    s.tx.engine = .idle → s.ctl.txEn = true → profileAt s.build s.tx.txProfile = some p →
    exec .preamble s = .next (Claims.started s 0x30000000 0
      (List.replicate (2 * p.payloadBytes) (if p.family = .f8 then 0xB5 else 0xED)))

/-- R200: END_MARKER puts the End pattern and the frame length of 0x01 on the output list. -/
def Obligations.EndMarkerOutputsPatternAndFiller : Prop :=
  ∀ (s : State) (p : Profile),
    s.tx.engine = .idle → s.ctl.txEn = true → profileAt s.build s.tx.txProfile = some p →
    exec .endMarker s = .next (Claims.started s 0x40000000 0
      ([0x4C, 0x8A, 0x2B] ++ List.replicate p.payloadBytes 0x01))

/-- R201, R253: an illegal FRAME or BULK word raises CmdError with the whole word, has no output, and
leaves LEN bytes to discard. -/
def Obligations.IllegalKindRaisesCmdError : Prop :=
  ∀ row ∈ Claims.illegalKindRows, ∀ (len : BitVec 24) (s : State) (p : Profile),
    s.tx.engine = .idle → s.ctl.txEn = true → profileAt s.build s.tx.txProfile = some p →
    exec (row.1 len) s = .next { Claims.started s (row.2 ++ len) len [] with
      ctl := { s.ctl with cmdErr := true, errInfo := row.2 ++ len } }

/-- R201, R253: the same for a reserved OP and for a PREAMBLE or END_MARKER word with KIND or LEN
not 0. -/
def Obligations.IllegalOpRaisesCmdError : Prop :=
  ∀ row ∈ Claims.illegalOpRows, ∀ (kind : BitVec 4) (len : BitVec 24) (s : State) (p : Profile),
    s.tx.engine = .idle → s.ctl.txEn = true → profileAt s.build s.tx.txProfile = some p →
    exec (row.1 kind len) s = .next { Claims.started s (row.2 ++ kind ++ len) len [] with
      ctl := { s.ctl with cmdErr := true, errInfo := row.2 ++ kind ++ len } }

/-- R190, R210: no command word starts while TX_EN is 0 or the engine is `Busy`. -/
def Obligations.NoCommandStartsWhileHeld : Prop :=
  ∀ (c : Word) (s : State), s.ctl.txEn = false ∨ s.tx.engine ≠ .idle →
    exec (decode (.cmd c)) s = .next s

/-- R215: with bytes to offer, a TX turn hands the first to a ready sink, and holds otherwise. That
the sink stays ready is the model's choice (assumption 5). -/
def Obligations.TxOutOffersTheFirstByteOrHolds : Prop :=
  ∀ (s : State) (rest : List Turn) (j : TxJob) (b : Byte) (out : List Byte),
    s.env.schedule = .tx :: rest → s.tx.engine = .busy j → j.outList = b :: out →
    (s.env.sinkReady = true →
      step s = .next { s with
        tx := { s.tx with engine := .busy { j with outList := out } }
        env := { s.env with schedule := rest, sinkBytes := s.env.sinkBytes ++ [b] } })
    ∧ (s.env.sinkReady = false →
      step s = .next { s with env := { s.env with schedule := rest } })

/-- R196: with the output list empty and bytes needed, a TX turn takes one payload byte, number
LEN - need, puts its Body on the list and after the last one the Tail, and holds while there is no
payload byte. Turns are the model's choice (assumption 1). -/
def Obligations.TxTakeTakesOnePayloadByteOrHolds : Prop :=
  ∀ (s : State) (rest : List Turn) (j : TxJob) (p : Profile),
    s.env.schedule = .tx :: rest → s.tx.engine = .busy j → j.outList = [] → 0 < j.need →
    profileAt s.build j.latched = some p →
    (∀ (b : Byte) (more : List Byte), s.tx.payQueue = b :: more →
      step s = .next { s with
        tx := { s.tx with
          payQueue := more
          engine := .busy { j with
            need := j.need - 1
            outList :=
              cmdBody (TxCmd.ofWord j.cmd) p ((lenOf j.cmd).toNat - j.need) b
              ++ (if j.need = 1 then cmdTail (TxCmd.ofWord j.cmd) p (lenOf j.cmd).toNat
                  else []) } }
        env := { s.env with schedule := rest } })
    ∧ (s.tx.payQueue = [] → step s = .next { s with env := { s.env with schedule := rest } })

/-- R202: with nothing to offer and nothing to take, a TX turn ends the command; TX_BUSY then
reads 0. -/
def Obligations.TxEndMakesTheEngineIdle : Prop :=
  ∀ (s : State) (j : TxJob), s.tx.engine = .busy j → j.outList = [] → j.need = 0 →
    ∃ t, ownTurn .tx s = .next t ∧ t = { s with tx := { s.tx with engine := .idle } }
      ∧ (statusValue t).getLsbD 1 = false

/-- R191: the latched profile and the command word of a running command never change; a step other
than reset only ends the command or keeps both. -/
def Obligations.ARunningCommandKeepsItsProfile : Prop :=
  ∀ (s t : State) (j : TxJob), s.tx.engine = .busy j → step s = .next t →
    t.tx.engine = .idle
    ∨ ∃ j', t.tx.engine = .busy j' ∧ j'.latched = j.latched ∧ j'.cmd = j.cmd

/-- R210: TX_EN gates TX-START only. A busy engine's turn does the same whatever TX_EN is, and no
command starts while it is 0. -/
def Obligations.TxEnGatesOnlyTheStart : Prop :=
  (∀ (s : State) (j : TxJob) (v : Bool), s.tx.engine = .busy j →
    ownTurn .tx { s with ctl := { s.ctl with txEn := v } }
    = match ownTurn .tx s with
      | .next t => .next { t with ctl := { t.ctl with txEn := v } }
      | .fault f => .fault f
      | .refused r => .refused r)
  ∧ (∀ (s : State) (c : Word), s.ctl.txEn = false → exec (decode (.cmd c)) s = .next s)

/-- R192 to R201: with its payload in the queue and the sink ready, a command runs to its end; it
offers exactly its closed-form output, takes exactly its LEN payload bytes, and raises CmdError
exactly if it is illegal. That the sink stays ready is the model's choice (assumption 5). -/
def Obligations.ACommandRunsToItsEndWithItsClosedFormOutput : Prop :=
  ∀ (c : Word) (s : State) (p : Profile) (payload more : List Byte),
    buildValid s.build = true → s.tx.engine = .idle → s.ctl.txEn = true →
    s.env.sinkReady = true → profileAt s.build s.tx.txProfile = some p →
    s.tx.payQueue = payload ++ more → payload.length = (lenOf c).toNat →
    ∃ t n u, exec (decode (.cmd c)) s = .next t ∧ txTurns n t = .next u
      ∧ u.tx.engine = .idle
      ∧ u.env.sinkBytes = s.env.sinkBytes ++ commandOutput (TxCmd.ofWord c) p payload
      ∧ u.tx.payQueue = more ∧ u.tx.cmdQueue = s.tx.cmdQueue.tail
      ∧ u.tx.txProfile = s.tx.txProfile ∧ u.rx = s.rx ∧ u.build = s.build
      ∧ u.ctl = (if TxCmd.ofWord c = .illegal then
          { s.ctl with cmdErr := true, errInfo := c } else s.ctl)

/-! Host accesses -/

/-- What a read of value `v` leaves: nothing in the block changes; the host has its value (its list
of returned values is the model's own, assumption 3). -/
def Claims.readReturned (s : State) (v : Word) : State :=
  { s with env := { s.env with
      hostProg := s.env.hostProg.tail, hostReads := s.env.hostReads ++ [v] } }

/-- R230, R34 to R36, R38 to R41: the reads of the plain registers return their fields,
zero-extended. -/
def Obligations.PlainReadsReturnTheirFields : Prop :=
  ∀ s : State,
    (∃ v, exec .rdCtrl s = .next (Claims.readReturned s v)
      ∧ v.toNat = s.ctl.rxEn.toNat + 2 * s.ctl.txEn.toNat + 4 * s.ctl.relayEn.toNat)
    ∧ (∃ v, exec .rdRxProfile s = .next (Claims.readReturned s v)
      ∧ v.toNat = s.rx.rxProfile.toNat)
    ∧ (∃ v, exec .rdTxProfile s = .next (Claims.readReturned s v)
      ∧ v.toNat = s.tx.txProfile.toNat)
    ∧ (∃ v, exec .rdDiag s = .next (Claims.readReturned s v)
      ∧ v.toNat = s.rx.diagCounter.toNat)
    ∧ (∃ v, exec .rdBitIndex s = .next (Claims.readReturned s v)
      ∧ v.toNat = s.rx.bitIndex.toNat)
    ∧ (∃ v, exec .rdShiftReg s = .next (Claims.readReturned s v)
      ∧ v.toNat = s.rx.shiftRegister.toNat)
    ∧ (∃ v, exec .rdErrInfo s = .next (Claims.readReturned s v) ∧ v = s.ctl.errInfo)

/-- R37, R84: the fields of STATUS. -/
def Obligations.StatusReadReturnsItsFields : Prop :=
  ∀ s : State, ∃ v, exec .rdStatus s = .next (Claims.readReturned s v)
    ∧ v.getLsbD 0 = s.rx.syncFound
    ∧ (v.getLsbD 1 = true ↔ ∃ j, s.tx.engine = .busy j)
    ∧ v.getLsbD 2 = s.ctl.cfgErr
    ∧ v.getLsbD 3 = s.ctl.cmdErr
    ∧ [FrameKind.none, .voice, .text, .video, .data, .callsign, .repeaterInfo,
        .endOfTx][(v.extractLsb' 4 4).toNat]? = some s.rx.currentFrameKind
    ∧ [FrameKind.none, .voice, .text, .video, .data, .callsign, .repeaterInfo,
        .endOfTx][(v.extractLsb' 8 4).toNat]? = some s.rx.lastFrameKind
    ∧ v.extractLsb' 12 20 = 0

/-- R42, R43: RX_GEOM and TX_GEOM show the geometry of the selected profiles. -/
def Obligations.GeometryReadsShowTheSelectedProfile : Prop :=
  ∀ (s : State) (p q : Profile), buildValid s.build = true →
    profileAt s.build s.rx.rxProfile = some p → profileAt s.build s.tx.txProfile = some q →
    (∃ v, exec .rdRxGeom s = .next (Claims.readReturned s v)
      ∧ v.toNat % 2 ^ 16 = p.payloadBytes
      ∧ [Family.f8, .std, .high][v.toNat / 2 ^ 16]? = some p.family)
    ∧ (∃ v, exec .rdTxGeom s = .next (Claims.readReturned s v)
      ∧ v.toNat % 2 ^ 16 = q.payloadBytes
      ∧ [Family.f8, .std, .high][v.toNat / 2 ^ 16]? = some q.family)

/-- R44, R230: reserved indices read 0. -/
def Obligations.ReservedIndicesReadZero : Prop :=
  ∀ (idx : BitVec 8) (data : Word) (s : State), 0x0A ≤ idx.toNat →
    exec (decode (.host (.access (0#1 ++ idx) data)) ) s = .next (Claims.readReturned s 0)

/-- R230: no read changes any state of the block, whatever its index; the host's list of returned
values is the model's own (assumption 3). -/
def Obligations.NoReadChangesTheBlock : Prop :=
  ∀ (idx : BitVec 8) (data : Word) (s t : State),
    exec (decode (.host (.access (0#1 ++ idx) data))) s = .next t →
    ∃ v, t = Claims.readReturned s v

/-- The block of `t` is that of `s`: everything but the agents outside it. -/
def Claims.sameBlock (s t : State) : Prop :=
  t.build = s.build ∧ t.rx = s.rx ∧ t.tx = s.tx ∧ t.ctl = s.ctl

/-- R232, R233, R282: WR.CTRL sets the three enables, and with bit 8 restarts RX sync. -/
def Obligations.WriteCtrlSetsEnablesAndRestarts : Prop :=
  ∀ (v : Word) (s : State), ∃ t, exec (.wrCtrl v) s = .next t
    ∧ t.ctl = { s.ctl with
        rxEn := v.getLsbD 0, txEn := v.getLsbD 1, relayEn := v.getLsbD 2 }
    ∧ (v.getLsbD 8 = false → t.rx = s.rx)
    ∧ (v.getLsbD 8 = true → t.rx = { s.rx with
        syncFound := false, currentFrameKind := .none, bitIndex := 0, shiftRegister := 0,
        lastFrameKind := .none, diagCounter := 0 })
    ∧ t.tx = s.tx ∧ t.build = s.build

/-- R234, R282: a legal RX_PROFILE write takes the index and resets RX sync, even when the index is
unchanged. -/
def Obligations.LegalRxProfileWriteResetsSync : Prop :=
  ∀ (v : Word) (s : State), v.toNat % 256 < s.build.profiles.length →
    ∃ t, exec (.wrRxProfile v) s = .next t ∧ Claims.sameBlock { s with rx := { s.rx with
      rxProfile := v.extractLsb' 0 8
      syncFound := false, currentFrameKind := .none, bitIndex := 0, shiftRegister := 0,
      lastFrameKind := .none, diagCounter := 0 } } t

/-- R235, R253: an illegal RX_PROFILE write raises CfgError with the whole written word, and changes
nothing else of the block. -/
def Obligations.IllegalRxProfileWriteRaisesCfgError : Prop :=
  ∀ (v : Word) (s : State), s.build.profiles.length ≤ v.toNat % 256 →
    ∃ t, exec (.wrRxProfile v) s = .next t
      ∧ Claims.sameBlock { s with ctl := { s.ctl with cfgErr := true, errInfo := v } } t

/-- R236: a TX_PROFILE write takes a legal index and has no other effect; with an illegal index it
raises CfgError with the whole written word and changes nothing else of the block. -/
def Obligations.WriteTxProfileTakesTheIndexOrRaisesCfgError : Prop :=
  ∀ (v : Word) (s : State), ∃ t, exec (.wrTxProfile v) s = .next t
    ∧ (v.toNat % 256 < s.build.profiles.length → Claims.sameBlock { s with tx := { s.tx with
        txProfile := v.extractLsb' 0 8 } } t)
    ∧ (s.build.profiles.length ≤ v.toNat % 256 →
        Claims.sameBlock { s with ctl := { s.ctl with cfgErr := true, errInfo := v } } t)

/-- R237, R256: WR.STATUS clears the error bits written as 1, and nothing else. -/
def Obligations.WriteStatusClearsTheBitsWrittenOne : Prop :=
  ∀ (v : Word) (s : State), ∃ t, exec (.wrStatus v) s = .next t
    ∧ t.ctl.cfgErr = (if v.getLsbD 2 then false else s.ctl.cfgErr)
    ∧ t.ctl.cmdErr = (if v.getLsbD 3 then false else s.ctl.cmdErr)
    ∧ t.ctl.errInfo = s.ctl.errInfo
    ∧ t.ctl.rxEn = s.ctl.rxEn ∧ t.ctl.txEn = s.ctl.txEn ∧ t.ctl.relayEn = s.ctl.relayEn
    ∧ t.rx = s.rx ∧ t.tx = s.tx ∧ t.build = s.build

/-- R238: writes to the read-only registers and the reserved indices are ignored, without error. -/
def Obligations.ReadOnlyAndReservedWritesAreIgnored : Prop :=
  ∀ (idx : BitVec 8) (v : Word) (s : State), 4 ≤ idx.toNat →
    ∃ t, exec (decode (.host (.access (1#1 ++ idx) v))) s = .next t ∧ Claims.sameBlock s t

/-- What a host operation leaves of the agents outside the block: at most one returned value or
record is added, the operation is done, and the rest is as before; or it holds and nothing changes.
How the model holds the host's side is its own choice (assumption 3). -/
def Obligations.HostOperationsTouchOnlyTheHostOutsideTheBlock : Prop :=
  ∀ (op : HostOp) (s t : State), exec (decode (.host op)) s = .next t →
    t.build = s.build
    ∧ (t = s ∨ ∃ (reads : List Word) (events : List Event),
        reads.length + events.length ≤ 1
        ∧ (events = [] ∨ s.rx.eventQueue = events ++ t.rx.eventQueue)
        ∧ t.env = { s.env with
            hostProg := s.env.hostProg.tail
            hostReads := s.env.hostReads ++ reads
            hostEvents := s.env.hostEvents ++ events })

/-- A state with its pending host operation done. -/
def Claims.operationDone (s : State) : State :=
  { s with env := { s.env with hostProg := s.env.hostProg.tail } }

/-- R239: PUSHC, PUSHB and POPE, each with its enabling condition and its hold; the host's side is
the model's own (assumption 3). -/
def Obligations.StreamOperationsTakeEffectOrHold : Prop :=
  ∀ (c : Word) (b : Byte) (s : State),
    (s.tx.cmdQueue.length < s.build.cmdDepth →
      exec (.pushc c) s = .next (Claims.operationDone { s with tx := { s.tx with
        cmdQueue := s.tx.cmdQueue ++ [c] } }))
    ∧ (s.build.cmdDepth ≤ s.tx.cmdQueue.length → exec (.pushc c) s = .next s)
    ∧ (s.tx.payQueue.length < s.build.payDepth →
      exec (.pushb b) s = .next (Claims.operationDone { s with tx := { s.tx with
        payQueue := s.tx.payQueue ++ [b] } }))
    ∧ (s.build.payDepth ≤ s.tx.payQueue.length → exec (.pushb b) s = .next s)
    ∧ (∀ (e : Event) (rest : List Event), s.rx.eventQueue = e :: rest →
      exec .pope s = .next { s with
        rx := { s.rx with eventQueue := rest }
        env := { s.env with
          hostProg := s.env.hostProg.tail, hostEvents := s.env.hostEvents ++ [e] } })
    ∧ (s.rx.eventQueue = [] → exec .pope s = .next s)

/-- R92, R93, R94: the header of a record. -/
def Obligations.EventHeaderCarriesCodeKindAndLength : Prop :=
  ∀ e : Event, e.bytes.length < 2 ^ 24 →
    (Event.header e).toNat % 2 ^ 24 = e.bytes.length
    ∧ [FrameKind.none, .voice, .text, .video, .data, .callsign, .repeaterInfo,
        .endOfTx][(Event.header e).toNat / 2 ^ 24 % 16]? = some e.kind
    ∧ [EventCode.controlFrameReceived, .textReceived, .callsignReceived, .repeaterInfoReceived,
        .audioFrameReceived, .digitalAudio, .videoData, .netData, .endOfContinuousTransmission,
        .receiveEnded, .relayRequest][(Event.header e).toNat / 2 ^ 28 - 1]? = some e.code
    ∧ 1 ≤ (Event.header e).toNat / 2 ^ 28

/-! Errors -/

/-- R253, R256, R257: over a step, CFG_ERR, CMD_ERR and ERR_INFO change only by an illegal profile
write, by TX-START of an illegal word, by a STATUS write, or by reset. -/
def Obligations.ErrorFieldsChangeOnlyAsTheRulesSay : Prop :=
  ∀ s t : State, step s = .next t →
    (t.ctl.cfgErr = s.ctl.cfgErr ∧ t.ctl.cmdErr = s.ctl.cmdErr ∧ t.ctl.errInfo = s.ctl.errInfo)
    ∨ (∃ rest, s.env.schedule = .resetLine :: rest
        ∧ t.ctl.cfgErr = false ∧ t.ctl.cmdErr = false ∧ t.ctl.errInfo = 0)
    ∨ (∃ rest w v ops, s.env.schedule = .host :: rest
        ∧ s.env.hostProg = .access w v :: ops ∧ (w = 0x101 ∨ w = 0x102)
        ∧ s.build.profiles.length ≤ v.toNat % 256
        ∧ t.ctl.cfgErr = true ∧ t.ctl.cmdErr = s.ctl.cmdErr ∧ t.ctl.errInfo = v)
    ∨ (∃ rest v ops, s.env.schedule = .host :: rest
        ∧ s.env.hostProg = .access 0x103 v :: ops
        ∧ t.ctl.cfgErr = (s.ctl.cfgErr && !v.getLsbD 2)
        ∧ t.ctl.cmdErr = (s.ctl.cmdErr && !v.getLsbD 3)
        ∧ t.ctl.errInfo = s.ctl.errInfo)
    ∨ (∃ rest c cs, s.env.schedule = .tx :: rest ∧ s.tx.engine = .idle
        ∧ s.tx.cmdQueue = c :: cs ∧ TxCmd.ofWord c = .illegal
        ∧ t.ctl.cfgErr = s.ctl.cfgErr ∧ t.ctl.cmdErr = true ∧ t.ctl.errInfo = c)
end

