-- ==== Sys2Proof/Laws/Encoding.lean ====
section
/-!
SUPPORT. The fields of an assembled word read back (R86, R98), and the register index and its
sorting undo each other (R33, R44).
-/
namespace Sys2Proof

/-- A number below 4 is one of 0 to 3: the bit positions of a 4-bit field. -/
theorem below_four {i : Nat} (h : i < 4) : i = 0 ∨ i = 1 ∨ i = 2 ∨ i = 3 := by omega

@[simp] theorem opOf_commandWord (op kind : BitVec 4) (len : BitVec 24) :
    opOf (commandWord op kind len) = op := by
  unfold opOf commandWord fieldAt
  ext i h
  rcases below_four h with rfl | rfl | rfl | rfl <;> simp

@[simp] theorem kindOf_commandWord (op kind : BitVec 4) (len : BitVec 24) :
    kindOf (commandWord op kind len) = kind := by
  unfold kindOf commandWord fieldAt
  ext i h
  rcases below_four h with rfl | rfl | rfl | rfl <;> simp

@[simp] theorem lenOf_commandWord (op kind : BitVec 4) (len : BitVec 24) :
    lenOf (commandWord op kind len) = len := by
  unfold lenOf commandWord fieldAt
  ext i h
  simp [h, show i < 28 by omega]
  omega

/-- A command word is its three fields. -/
theorem commandWord_fields (c : Word) : commandWord (opOf c) (kindOf c) (lenOf c) = c := by
  unfold opOf kindOf lenOf commandWord fieldAt
  apply BitVec.eq_of_getLsbD_eq
  intro i h
  simp only [BitVec.getLsbD_or, BitVec.getLsbD_shiftLeft, BitVec.getLsbD_setWidth,
    BitVec.getLsbD_extractLsb']
  by_cases h1 : i < 24
  · simp [h, h1, show i < 28 by omega]
  · by_cases h2 : i < 28
    · simp [h, h1, h2, show i - 24 < 4 by omega, show i - 24 < 32 by omega,
        show 24 + (i - 24) = i by omega]
    · simp [h, h1, h2, show ¬ i - 24 < 4 by omega, show i - 28 < 4 by omega,
        show i - 28 < 32 by omega, show 28 + (i - 28) = i by omega]

@[simp] theorem decodeCommand_commandWord (op kind : BitVec 4) (len : BitVec 24) :
    decodeCommand (commandWord op kind len) = commandRow op kind len := by
  simp [decodeCommand]

@[simp] theorem ofWord_commandWord (op kind : BitVec 4) (len : BitVec 24) :
    TxCmd.ofWord (commandWord op kind len) = TxCmd.ofFields op kind len := by
  simp [TxCmd.ofWord]

@[simp] theorem ofIndex_index (r : HostReg) : HostReg.ofIndex r.index = r := by
  cases r with
  | reserved0A0B x => revert x; decide
  | reserved0C0F x => revert x; decide
  | reserved101F x => revert x; decide
  | reserved203F x => revert x; decide
  | reserved407F x => revert x; decide
  | reserved80FF x => revert x; decide
  | _ => rfl

@[simp] theorem index_ofIndex (idx : BitVec 8) : (HostReg.ofIndex idx).index = idx := by
  revert idx; decide

/-- The direction bit and the index of a read access (R98). -/
theorem read_access_fields (idx : BitVec 8) :
    (0#1 ++ idx).getLsbD 8 = false ∧ (0#1 ++ idx).extractLsb' 0 8 = idx := by
  revert idx; decide

/-- The direction bit and the index of a write access (R98). -/
theorem write_access_fields (idx : BitVec 8) :
    (1#1 ++ idx).getLsbD 8 = true ∧ (1#1 ++ idx).extractLsb' 0 8 = idx := by
  revert idx; decide

/-- An access word is its direction bit and its index. -/
theorem access_word_cases (w : BitVec 9) :
    w = (if w.getLsbD 8 then 1#1 else 0#1) ++ w.extractLsb' 0 8 := by
  revert w; decide

@[simp] theorem decodeAccess_read (idx : BitVec 8) (data : Word) :
    decodeAccess (0#1 ++ idx) data = readRow (HostReg.ofIndex idx) := by
  simp only [decodeAccess, read_access_fields idx, Bool.false_eq_true, if_false]

@[simp] theorem decodeAccess_write (idx : BitVec 8) (data : Word) :
    decodeAccess (1#1 ++ idx) data = writeRow data (HostReg.ofIndex idx) := by
  simp only [decodeAccess, write_access_fields idx, if_true]

@[simp] theorem decode_encodeRead (r : HostReg) : decode (encodeRead r) = readRow r := by
  simp [encodeRead, decode, decodeHost]

@[simp] theorem decode_encodeWrite (r : HostReg) (v : Word) :
    decode (encodeWrite r v) = writeRow v r := by
  simp [encodeWrite, decode, decodeHost]

@[simp] theorem encode_readRow (r : HostReg) : encode (readRow r) = encodeRead r := by
  cases r <;> rfl

@[simp] theorem encode_writeRow (r : HostReg) (v : Word) :
    encode (writeRow v r) = encodeWrite r v := by
  cases r <;> rfl

end Sys2Proof
end

