-- ==== Sys2Proof/Laws/State.lean ====
section
/-!
SUPPORT. One lemma for each field of each update of the state, so that no later proof unfolds a
record update.
-/
namespace Sys2Proof.Machine

open Sys2Proof

/-! Frame-completion reset -/

@[simp] theorem RxState.syncReset_rxProfile (r : RxState) :
    (r.syncReset).rxProfile = r.rxProfile := rfl

@[simp] theorem RxState.syncReset_shiftRegister (r : RxState) :
    (r.syncReset).shiftRegister = 0 := rfl

@[simp] theorem RxState.syncReset_syncFound (r : RxState) :
    (r.syncReset).syncFound = false := rfl

@[simp] theorem RxState.syncReset_currentFrameKind (r : RxState) :
    (r.syncReset).currentFrameKind = .none := rfl

@[simp] theorem RxState.syncReset_bitIndex (r : RxState) :
    (r.syncReset).bitIndex = 0 := rfl

@[simp] theorem RxState.syncReset_bitBuf (r : RxState) :
    (r.syncReset).bitBuf = r.bitBuf := rfl

@[simp] theorem RxState.syncReset_lastFrameKind (r : RxState) :
    (r.syncReset).lastFrameKind = r.lastFrameKind := rfl

@[simp] theorem RxState.syncReset_diagCounter (r : RxState) :
    (r.syncReset).diagCounter = r.diagCounter := rfl

@[simp] theorem RxState.syncReset_eventQueue (r : RxState) :
    (r.syncReset).eventQueue = r.eventQueue := rfl

/-! Host sync reset -/

@[simp] theorem RxState.hostSyncReset_rxProfile (r : RxState) :
    (r.hostSyncReset).rxProfile = r.rxProfile := rfl

@[simp] theorem RxState.hostSyncReset_shiftRegister (r : RxState) :
    (r.hostSyncReset).shiftRegister = 0 := rfl

@[simp] theorem RxState.hostSyncReset_syncFound (r : RxState) :
    (r.hostSyncReset).syncFound = false := rfl

@[simp] theorem RxState.hostSyncReset_currentFrameKind (r : RxState) :
    (r.hostSyncReset).currentFrameKind = .none := rfl

@[simp] theorem RxState.hostSyncReset_bitIndex (r : RxState) :
    (r.hostSyncReset).bitIndex = 0 := rfl

@[simp] theorem RxState.hostSyncReset_bitBuf (r : RxState) :
    (r.hostSyncReset).bitBuf = r.bitBuf := rfl

@[simp] theorem RxState.hostSyncReset_lastFrameKind (r : RxState) :
    (r.hostSyncReset).lastFrameKind = .none := rfl

@[simp] theorem RxState.hostSyncReset_diagCounter (r : RxState) :
    (r.hostSyncReset).diagCounter = 0 := rfl

@[simp] theorem RxState.hostSyncReset_eventQueue (r : RxState) :
    (r.hostSyncReset).eventQueue = r.eventQueue := rfl

/-! Appending a record -/

@[simp] theorem RxState.emit_rxProfile (c : EventCode) (k : FrameKind) (bs : List Byte) (r : RxState) :
    (r.emit c k bs).rxProfile = r.rxProfile := rfl

@[simp] theorem RxState.emit_shiftRegister (c : EventCode) (k : FrameKind) (bs : List Byte) (r : RxState) :
    (r.emit c k bs).shiftRegister = r.shiftRegister := rfl

@[simp] theorem RxState.emit_syncFound (c : EventCode) (k : FrameKind) (bs : List Byte) (r : RxState) :
    (r.emit c k bs).syncFound = r.syncFound := rfl

@[simp] theorem RxState.emit_currentFrameKind (c : EventCode) (k : FrameKind) (bs : List Byte) (r : RxState) :
    (r.emit c k bs).currentFrameKind = r.currentFrameKind := rfl

@[simp] theorem RxState.emit_bitIndex (c : EventCode) (k : FrameKind) (bs : List Byte) (r : RxState) :
    (r.emit c k bs).bitIndex = r.bitIndex := rfl

@[simp] theorem RxState.emit_bitBuf (c : EventCode) (k : FrameKind) (bs : List Byte) (r : RxState) :
    (r.emit c k bs).bitBuf = r.bitBuf := rfl

@[simp] theorem RxState.emit_lastFrameKind (c : EventCode) (k : FrameKind) (bs : List Byte) (r : RxState) :
    (r.emit c k bs).lastFrameKind = r.lastFrameKind := rfl

@[simp] theorem RxState.emit_diagCounter (c : EventCode) (k : FrameKind) (bs : List Byte) (r : RxState) :
    (r.emit c k bs).diagCounter = r.diagCounter := rfl

@[simp] theorem RxState.emit_eventQueue (c : EventCode) (k : FrameKind) (bs : List Byte) (r : RxState) :
    (r.emit c k bs).eventQueue = r.eventQueue ++ [⟨c, k, bs⟩] := rfl

/-! The sticky kind -/

@[simp] theorem RxState.setLast_rxProfile (k : FrameKind) (r : RxState) :
    (r.setLast k).rxProfile = r.rxProfile := rfl

@[simp] theorem RxState.setLast_shiftRegister (k : FrameKind) (r : RxState) :
    (r.setLast k).shiftRegister = r.shiftRegister := rfl

@[simp] theorem RxState.setLast_syncFound (k : FrameKind) (r : RxState) :
    (r.setLast k).syncFound = r.syncFound := rfl

@[simp] theorem RxState.setLast_currentFrameKind (k : FrameKind) (r : RxState) :
    (r.setLast k).currentFrameKind = r.currentFrameKind := rfl

@[simp] theorem RxState.setLast_bitIndex (k : FrameKind) (r : RxState) :
    (r.setLast k).bitIndex = r.bitIndex := rfl

@[simp] theorem RxState.setLast_bitBuf (k : FrameKind) (r : RxState) :
    (r.setLast k).bitBuf = r.bitBuf := rfl

@[simp] theorem RxState.setLast_lastFrameKind (k : FrameKind) (r : RxState) :
    (r.setLast k).lastFrameKind = k := rfl

@[simp] theorem RxState.setLast_diagCounter (k : FrameKind) (r : RxState) :
    (r.setLast k).diagCounter = r.diagCounter := rfl

@[simp] theorem RxState.setLast_eventQueue (k : FrameKind) (r : RxState) :
    (r.setLast k).eventQueue = r.eventQueue := rfl

/-! Taking a bit -/

@[simp] theorem RxState.takeBit_rxProfile (b : Bool) (r : RxState) :
    (r.takeBit b).rxProfile = r.rxProfile := rfl

@[simp] theorem RxState.takeBit_shiftRegister (b : Bool) (r : RxState) :
    (r.takeBit b).shiftRegister = (r.shiftRegister <<< 1) ||| (BitVec.ofBool b).setWidth 24 := rfl

@[simp] theorem RxState.takeBit_syncFound (b : Bool) (r : RxState) :
    (r.takeBit b).syncFound = r.syncFound := rfl

@[simp] theorem RxState.takeBit_currentFrameKind (b : Bool) (r : RxState) :
    (r.takeBit b).currentFrameKind = r.currentFrameKind := rfl

@[simp] theorem RxState.takeBit_bitIndex (b : Bool) (r : RxState) :
    (r.takeBit b).bitIndex = r.bitIndex := rfl

@[simp] theorem RxState.takeBit_bitBuf (b : Bool) (r : RxState) :
    (r.takeBit b).bitBuf = r.bitBuf := rfl

@[simp] theorem RxState.takeBit_lastFrameKind (b : Bool) (r : RxState) :
    (r.takeBit b).lastFrameKind = r.lastFrameKind := rfl

@[simp] theorem RxState.takeBit_diagCounter (b : Bool) (r : RxState) :
    (r.takeBit b).diagCounter = diagNext r.syncFound r.diagCounter := rfl

@[simp] theorem RxState.takeBit_eventQueue (b : Bool) (r : RxState) :
    (r.takeBit b).eventQueue = r.eventQueue := rfl

/-! Storing a payload bit -/

@[simp] theorem RxState.store_rxProfile (b : Bool) (r : RxState) :
    (r.store b).rxProfile = r.rxProfile := rfl

@[simp] theorem RxState.store_shiftRegister (b : Bool) (r : RxState) :
    (r.store b).shiftRegister = r.shiftRegister := rfl

@[simp] theorem RxState.store_syncFound (b : Bool) (r : RxState) :
    (r.store b).syncFound = r.syncFound := rfl

@[simp] theorem RxState.store_currentFrameKind (b : Bool) (r : RxState) :
    (r.store b).currentFrameKind = r.currentFrameKind := rfl

@[simp] theorem RxState.store_bitIndex (b : Bool) (r : RxState) :
    (r.store b).bitIndex = r.bitIndex + 1 := rfl

@[simp] theorem RxState.store_bitBuf (b : Bool) (r : RxState) :
    (r.store b).bitBuf = BitBuf.write r.bitBuf r.bitIndex.toNat b := rfl

@[simp] theorem RxState.store_lastFrameKind (b : Bool) (r : RxState) :
    (r.store b).lastFrameKind = r.lastFrameKind := rfl

@[simp] theorem RxState.store_diagCounter (b : Bool) (r : RxState) :
    (r.store b).diagCounter = r.diagCounter := rfl

@[simp] theorem RxState.store_eventQueue (b : Bool) (r : RxState) :
    (r.store b).eventQueue = r.eventQueue := rfl

/-! The CTRL enables -/

@[simp] theorem Control.setEnables_rxEn (v : Word) (c : Control) :
    (c.setEnables v).rxEn = v.getLsbD 0 := rfl

@[simp] theorem Control.setEnables_txEn (v : Word) (c : Control) :
    (c.setEnables v).txEn = v.getLsbD 1 := rfl

@[simp] theorem Control.setEnables_relayEn (v : Word) (c : Control) :
    (c.setEnables v).relayEn = v.getLsbD 2 := rfl

@[simp] theorem Control.setEnables_cfgErr (v : Word) (c : Control) :
    (c.setEnables v).cfgErr = c.cfgErr := rfl

@[simp] theorem Control.setEnables_cmdErr (v : Word) (c : Control) :
    (c.setEnables v).cmdErr = c.cmdErr := rfl

@[simp] theorem Control.setEnables_errInfo (v : Word) (c : Control) :
    (c.setEnables v).errInfo = c.errInfo := rfl

/-! Clearing error bits -/

@[simp] theorem Control.clearErrors_rxEn (v : Word) (c : Control) :
    (c.clearErrors v).rxEn = c.rxEn := rfl

@[simp] theorem Control.clearErrors_txEn (v : Word) (c : Control) :
    (c.clearErrors v).txEn = c.txEn := rfl

@[simp] theorem Control.clearErrors_relayEn (v : Word) (c : Control) :
    (c.clearErrors v).relayEn = c.relayEn := rfl

@[simp] theorem Control.clearErrors_cfgErr (v : Word) (c : Control) :
    (c.clearErrors v).cfgErr = (c.cfgErr && !v.getLsbD 2) := rfl

@[simp] theorem Control.clearErrors_cmdErr (v : Word) (c : Control) :
    (c.clearErrors v).cmdErr = (c.cmdErr && !v.getLsbD 3) := rfl

@[simp] theorem Control.clearErrors_errInfo (v : Word) (c : Control) :
    (c.clearErrors v).errInfo = c.errInfo := rfl

/-! Raising CfgError -/

@[simp] theorem Control.raise_cfg_rxEn (v : Word) (c : Control) :
    (c.raise .cfgError v).rxEn = c.rxEn := rfl

@[simp] theorem Control.raise_cfg_txEn (v : Word) (c : Control) :
    (c.raise .cfgError v).txEn = c.txEn := rfl

@[simp] theorem Control.raise_cfg_relayEn (v : Word) (c : Control) :
    (c.raise .cfgError v).relayEn = c.relayEn := rfl

@[simp] theorem Control.raise_cfg_cfgErr (v : Word) (c : Control) :
    (c.raise .cfgError v).cfgErr = true := rfl

@[simp] theorem Control.raise_cfg_cmdErr (v : Word) (c : Control) :
    (c.raise .cfgError v).cmdErr = c.cmdErr := rfl

@[simp] theorem Control.raise_cfg_errInfo (v : Word) (c : Control) :
    (c.raise .cfgError v).errInfo = v := rfl

/-! Raising CmdError -/

@[simp] theorem Control.raise_cmd_rxEn (v : Word) (c : Control) :
    (c.raise .cmdError v).rxEn = c.rxEn := rfl

@[simp] theorem Control.raise_cmd_txEn (v : Word) (c : Control) :
    (c.raise .cmdError v).txEn = c.txEn := rfl

@[simp] theorem Control.raise_cmd_relayEn (v : Word) (c : Control) :
    (c.raise .cmdError v).relayEn = c.relayEn := rfl

@[simp] theorem Control.raise_cmd_cfgErr (v : Word) (c : Control) :
    (c.raise .cmdError v).cfgErr = c.cfgErr := rfl

@[simp] theorem Control.raise_cmd_cmdErr (v : Word) (c : Control) :
    (c.raise .cmdError v).cmdErr = true := rfl

@[simp] theorem Control.raise_cmd_errInfo (v : Word) (c : Control) :
    (c.raise .cmdError v).errInfo = v := rfl

/-! Raising an error in the state -/

@[simp] theorem State.raiseError_build (e : ErrorCause) (v : Word) (s : State) :
    (s.raiseError e v).build = s.build := rfl

@[simp] theorem State.raiseError_rx (e : ErrorCause) (v : Word) (s : State) :
    (s.raiseError e v).rx = s.rx := rfl

@[simp] theorem State.raiseError_tx (e : ErrorCause) (v : Word) (s : State) :
    (s.raiseError e v).tx = s.tx := rfl

@[simp] theorem State.raiseError_ctl (e : ErrorCause) (v : Word) (s : State) :
    (s.raiseError e v).ctl = s.ctl.raise e v := rfl

@[simp] theorem State.raiseError_env (e : ErrorCause) (v : Word) (s : State) :
    (s.raiseError e v).env = s.env := rfl

/-! A host operation done -/

@[simp] theorem State.hostDone_build (s : State) :
    (s.hostDone).build = s.build := rfl

@[simp] theorem State.hostDone_rx (s : State) :
    (s.hostDone).rx = s.rx := rfl

@[simp] theorem State.hostDone_tx (s : State) :
    (s.hostDone).tx = s.tx := rfl

@[simp] theorem State.hostDone_ctl (s : State) :
    (s.hostDone).ctl = s.ctl := rfl

@[simp] theorem State.hostDone_rxPort (s : State) :
    (s.hostDone).env.rxPort = s.env.rxPort := rfl

@[simp] theorem State.hostDone_symbols (s : State) :
    (s.hostDone).env.symbols = s.env.symbols := rfl

@[simp] theorem State.hostDone_hostProg (s : State) :
    (s.hostDone).env.hostProg = s.env.hostProg.tail := rfl

@[simp] theorem State.hostDone_hostReads (s : State) :
    (s.hostDone).env.hostReads = s.env.hostReads := rfl

@[simp] theorem State.hostDone_hostEvents (s : State) :
    (s.hostDone).env.hostEvents = s.env.hostEvents := rfl

@[simp] theorem State.hostDone_sinkReady (s : State) :
    (s.hostDone).env.sinkReady = s.env.sinkReady := rfl

@[simp] theorem State.hostDone_sinkBytes (s : State) :
    (s.hostDone).env.sinkBytes = s.env.sinkBytes := rfl

@[simp] theorem State.hostDone_schedule (s : State) :
    (s.hostDone).env.schedule = s.env.schedule := rfl

/-! A host read done -/

@[simp] theorem State.hostReturn_build (v : Word) (s : State) :
    (s.hostReturn v).build = s.build := rfl

@[simp] theorem State.hostReturn_rx (v : Word) (s : State) :
    (s.hostReturn v).rx = s.rx := rfl

@[simp] theorem State.hostReturn_tx (v : Word) (s : State) :
    (s.hostReturn v).tx = s.tx := rfl

@[simp] theorem State.hostReturn_ctl (v : Word) (s : State) :
    (s.hostReturn v).ctl = s.ctl := rfl

@[simp] theorem State.hostReturn_rxPort (v : Word) (s : State) :
    (s.hostReturn v).env.rxPort = s.env.rxPort := rfl

@[simp] theorem State.hostReturn_symbols (v : Word) (s : State) :
    (s.hostReturn v).env.symbols = s.env.symbols := rfl

@[simp] theorem State.hostReturn_hostProg (v : Word) (s : State) :
    (s.hostReturn v).env.hostProg = s.env.hostProg.tail := rfl

@[simp] theorem State.hostReturn_hostReads (v : Word) (s : State) :
    (s.hostReturn v).env.hostReads = s.env.hostReads ++ [v] := rfl

@[simp] theorem State.hostReturn_hostEvents (v : Word) (s : State) :
    (s.hostReturn v).env.hostEvents = s.env.hostEvents := rfl

@[simp] theorem State.hostReturn_sinkReady (v : Word) (s : State) :
    (s.hostReturn v).env.sinkReady = s.env.sinkReady := rfl

@[simp] theorem State.hostReturn_sinkBytes (v : Word) (s : State) :
    (s.hostReturn v).env.sinkBytes = s.env.sinkBytes := rfl

@[simp] theorem State.hostReturn_schedule (v : Word) (s : State) :
    (s.hostReturn v).env.schedule = s.env.schedule := rfl

/-! A turn spent -/

@[simp] theorem State.dropTurn_build (s : State) :
    (s.dropTurn).build = s.build := rfl

@[simp] theorem State.dropTurn_rx (s : State) :
    (s.dropTurn).rx = s.rx := rfl

@[simp] theorem State.dropTurn_tx (s : State) :
    (s.dropTurn).tx = s.tx := rfl

@[simp] theorem State.dropTurn_ctl (s : State) :
    (s.dropTurn).ctl = s.ctl := rfl

@[simp] theorem State.dropTurn_rxPort (s : State) :
    (s.dropTurn).env.rxPort = s.env.rxPort := rfl

@[simp] theorem State.dropTurn_symbols (s : State) :
    (s.dropTurn).env.symbols = s.env.symbols := rfl

@[simp] theorem State.dropTurn_hostProg (s : State) :
    (s.dropTurn).env.hostProg = s.env.hostProg := rfl

@[simp] theorem State.dropTurn_hostReads (s : State) :
    (s.dropTurn).env.hostReads = s.env.hostReads := rfl

@[simp] theorem State.dropTurn_hostEvents (s : State) :
    (s.dropTurn).env.hostEvents = s.env.hostEvents := rfl

@[simp] theorem State.dropTurn_sinkReady (s : State) :
    (s.dropTurn).env.sinkReady = s.env.sinkReady := rfl

@[simp] theorem State.dropTurn_sinkBytes (s : State) :
    (s.dropTurn).env.sinkBytes = s.env.sinkBytes := rfl

@[simp] theorem State.dropTurn_schedule (s : State) :
    (s.dropTurn).env.schedule = s.env.schedule.tail := rfl

/-! Reset -/

@[simp] theorem State.blockReset_build (s : State) :
    (s.blockReset).build = s.build := rfl

@[simp] theorem State.blockReset_rx (s : State) :
    (s.blockReset).rx = .reset := rfl

@[simp] theorem State.blockReset_tx (s : State) :
    (s.blockReset).tx = .reset := rfl

@[simp] theorem State.blockReset_ctl (s : State) :
    (s.blockReset).ctl = .reset := rfl

@[simp] theorem State.blockReset_env (s : State) :
    (s.blockReset).env = s.env := rfl

/-! A new block -/

@[simp] theorem State.resetWith_build (b : Build) :
    (State.resetWith b).build = b := rfl

@[simp] theorem State.resetWith_rx (b : Build) :
    (State.resetWith b).rx = .reset := rfl

@[simp] theorem State.resetWith_tx (b : Build) :
    (State.resetWith b).tx = .reset := rfl

@[simp] theorem State.resetWith_ctl (b : Build) :
    (State.resetWith b).ctl = .reset := rfl

@[simp] theorem State.resetWith_env (b : Build) :
    (State.resetWith b).env = .quiet := rfl

/-! TX-OUT -/

@[simp] theorem State.txOut_build (j : TxJob) (b : Byte) (l : List Byte) (s : State) :
    (s.txOut j b l).build = s.build := rfl

@[simp] theorem State.txOut_rx (j : TxJob) (b : Byte) (l : List Byte) (s : State) :
    (s.txOut j b l).rx = s.rx := rfl

@[simp] theorem State.txOut_tx (j : TxJob) (b : Byte) (l : List Byte) (s : State) :
    (s.txOut j b l).tx = { s.tx with engine := .busy { j with outList := l } } := rfl

@[simp] theorem State.txOut_ctl (j : TxJob) (b : Byte) (l : List Byte) (s : State) :
    (s.txOut j b l).ctl = s.ctl := rfl

@[simp] theorem State.txOut_rxPort (j : TxJob) (b : Byte) (l : List Byte) (s : State) :
    (s.txOut j b l).env.rxPort = s.env.rxPort := rfl

@[simp] theorem State.txOut_symbols (j : TxJob) (b : Byte) (l : List Byte) (s : State) :
    (s.txOut j b l).env.symbols = s.env.symbols := rfl

@[simp] theorem State.txOut_hostProg (j : TxJob) (b : Byte) (l : List Byte) (s : State) :
    (s.txOut j b l).env.hostProg = s.env.hostProg := rfl

@[simp] theorem State.txOut_hostReads (j : TxJob) (b : Byte) (l : List Byte) (s : State) :
    (s.txOut j b l).env.hostReads = s.env.hostReads := rfl

@[simp] theorem State.txOut_hostEvents (j : TxJob) (b : Byte) (l : List Byte) (s : State) :
    (s.txOut j b l).env.hostEvents = s.env.hostEvents := rfl

@[simp] theorem State.txOut_sinkReady (j : TxJob) (b : Byte) (l : List Byte) (s : State) :
    (s.txOut j b l).env.sinkReady = s.env.sinkReady := rfl

@[simp] theorem State.txOut_sinkBytes (j : TxJob) (b : Byte) (l : List Byte) (s : State) :
    (s.txOut j b l).env.sinkBytes = s.env.sinkBytes ++ [b] := rfl

@[simp] theorem State.txOut_schedule (j : TxJob) (b : Byte) (l : List Byte) (s : State) :
    (s.txOut j b l).env.schedule = s.env.schedule := rfl

/-! TX-TAKE -/

@[simp] theorem State.txTake_build (j : TxJob) (p : Profile) (b : Byte) (l : List Byte) (s : State) :
    (s.txTake j p b l).build = s.build := rfl

@[simp] theorem State.txTake_rx (j : TxJob) (p : Profile) (b : Byte) (l : List Byte) (s : State) :
    (s.txTake j p b l).rx = s.rx := rfl

@[simp] theorem State.txTake_tx (j : TxJob) (p : Profile) (b : Byte) (l : List Byte) (s : State) :
    (s.txTake j p b l).tx = { s.tx with
      payQueue := l
      engine := .busy { j with
        outList := takeOutput (TxCmd.ofWord j.cmd) p (lenOf j.cmd).toNat j.need b
        need := j.need - 1 } } := rfl

@[simp] theorem State.txTake_ctl (j : TxJob) (p : Profile) (b : Byte) (l : List Byte) (s : State) :
    (s.txTake j p b l).ctl = s.ctl := rfl

@[simp] theorem State.txTake_env (j : TxJob) (p : Profile) (b : Byte) (l : List Byte) (s : State) :
    (s.txTake j p b l).env = s.env := rfl

/-! TX-END -/

@[simp] theorem State.txEnd_build (s : State) :
    (s.txEnd).build = s.build := rfl

@[simp] theorem State.txEnd_rx (s : State) :
    (s.txEnd).rx = s.rx := rfl

@[simp] theorem State.txEnd_tx (s : State) :
    (s.txEnd).tx = { s.tx with engine := .idle } := rfl

@[simp] theorem State.txEnd_ctl (s : State) :
    (s.txEnd).ctl = s.ctl := rfl

@[simp] theorem State.txEnd_env (s : State) :
    (s.txEnd).env = s.env := rfl

/-! POPE -/

@[simp] theorem State.popEvent_build (e : Event) (l : List Event) (s : State) :
    (s.popEvent e l).build = s.build := rfl

@[simp] theorem State.popEvent_rx (e : Event) (l : List Event) (s : State) :
    (s.popEvent e l).rx = { s.rx with eventQueue := l } := rfl

@[simp] theorem State.popEvent_tx (e : Event) (l : List Event) (s : State) :
    (s.popEvent e l).tx = s.tx := rfl

@[simp] theorem State.popEvent_ctl (e : Event) (l : List Event) (s : State) :
    (s.popEvent e l).ctl = s.ctl := rfl

@[simp] theorem State.popEvent_rxPort (e : Event) (l : List Event) (s : State) :
    (s.popEvent e l).env.rxPort = s.env.rxPort := rfl

@[simp] theorem State.popEvent_symbols (e : Event) (l : List Event) (s : State) :
    (s.popEvent e l).env.symbols = s.env.symbols := rfl

@[simp] theorem State.popEvent_hostProg (e : Event) (l : List Event) (s : State) :
    (s.popEvent e l).env.hostProg = s.env.hostProg := rfl

@[simp] theorem State.popEvent_hostReads (e : Event) (l : List Event) (s : State) :
    (s.popEvent e l).env.hostReads = s.env.hostReads := rfl

@[simp] theorem State.popEvent_hostEvents (e : Event) (l : List Event) (s : State) :
    (s.popEvent e l).env.hostEvents = s.env.hostEvents ++ [e] := rfl

@[simp] theorem State.popEvent_sinkReady (e : Event) (l : List Event) (s : State) :
    (s.popEvent e l).env.sinkReady = s.env.sinkReady := rfl

@[simp] theorem State.popEvent_sinkBytes (e : Event) (l : List Event) (s : State) :
    (s.popEvent e l).env.sinkBytes = s.env.sinkBytes := rfl

@[simp] theorem State.popEvent_schedule (e : Event) (l : List Event) (s : State) :
    (s.popEvent e l).env.schedule = s.env.schedule := rfl

end Sys2Proof.Machine
end

