-- ==== Sys2Proof/Laws/Ops.lean ====
section
/-!
SUPPORT. What each shared operation can do, said once: the bit buffer's laws (it keeps its canonical
form), the profile table, the RX step, the dispatcher, and the TX engine's steps.
-/
namespace Sys2Proof.Machine

open Sys2Proof

/-! The bit buffer -/

/-- A written cell reads as what was written. -/
@[simp] theorem BitBuf.read_write_same (m : BitBuf) (i : Nat) (b : Bool) :
    BitBuf.read (BitBuf.write m i b) i = b := by
  induction m with
  | nil => simp [BitBuf.write, BitBuf.read]
  | cons c rest ih =>
    obtain ⟨k, v⟩ := c
    simp only [BitBuf.write]
    split
    · simp [BitBuf.read]
    · split
      · simp [BitBuf.read]
      · rename_i h1 h2
        simp [BitBuf.read, Ne.symm h2, ih]

/-- A write leaves every other cell alone. -/
theorem BitBuf.read_write_other (m : BitBuf) (i j : Nat) (b : Bool) (h : j ≠ i) :
    BitBuf.read (BitBuf.write m i b) j = BitBuf.read m j := by
  induction m with
  | nil => simp [BitBuf.write, BitBuf.read, h.symm]
  | cons c rest ih =>
    obtain ⟨k, v⟩ := c
    simp only [BitBuf.write]
    split
    · simp [BitBuf.read, h.symm]
    · split
      · rename_i h1 h2
        subst h2
        simp [BitBuf.read, h.symm]
      · simp [BitBuf.read, ih]

/-- The cells after a write are the old ones and the written one. -/
theorem BitBuf.mem_write (m : BitBuf) (i : Nat) (b : Bool) (c : Nat × Bool)
    (h : c ∈ BitBuf.write m i b) : c = (i, b) ∨ c ∈ m := by
  induction m with
  | nil => simpa [BitBuf.write] using h
  | cons d rest ih =>
    obtain ⟨k, v⟩ := d
    simp only [BitBuf.write] at h
    split at h
    · simpa using h
    · split at h
      · simp only [List.mem_cons] at h ⊢
        rcases h with h | h
        · exact .inl h
        · exact .inr (.inr h)
      · simp only [List.mem_cons] at h ⊢
        rcases h with h | h
        · exact .inr (.inl h)
        · rcases ih h with h | h
          · exact .inl h
          · exact .inr (.inr h)

/-- A write keeps the canonical form. -/
theorem BitBuf.write_wf (m : BitBuf) (i : Nat) (b : Bool) (h : BitBuf.wf m) :
    BitBuf.wf (BitBuf.write m i b) := by
  induction m with
  | nil => simp [BitBuf.write, BitBuf.wf]
  | cons c rest ih =>
    obtain ⟨k, v⟩ := c
    have hr := List.pairwise_cons.mp h
    simp only [BitBuf.write]
    split
    · rename_i h1
      refine List.pairwise_cons.mpr ⟨fun a ha => ?_, h⟩
      rcases List.mem_cons.mp ha with rfl | ha
      · exact h1
      · exact Nat.lt_trans h1 (hr.1 a ha)
    · split
      · rename_i h1 h2
        subst h2
        exact List.pairwise_cons.mpr ⟨hr.1, hr.2⟩
      · rename_i h1 h2
        refine List.pairwise_cons.mpr ⟨fun a ha => ?_, ih hr.2⟩
        rcases BitBuf.mem_write rest i b a ha with rfl | ha
        · simp only; omega
        · exact hr.1 a ha

/-- The bit buffer after reset has the canonical form. -/
theorem BitBuf.reset_wf : BitBuf.wf State.reset.rx.bitBuf := by
  simp [State.reset, BitBuf.wf, RxState.reset]

/-- After a write the written cell and the cells held before are held. -/
theorem BitBuf.holds_write (m : BitBuf) (i j : Nat) (b : Bool)
    (h : j = i ∨ BitBuf.holds m j = true) : BitBuf.holds (BitBuf.write m i b) j = true := by
  induction m with
  | nil =>
    rcases h with rfl | h
    · simp [BitBuf.write, BitBuf.holds]
    · simp [BitBuf.holds] at h
  | cons c rest ih =>
    obtain ⟨k, v⟩ := c
    simp only [BitBuf.write]
    simp only [BitBuf.holds, List.any_cons, Bool.or_eq_true, beq_iff_eq] at h ih ⊢
    split
    · simp only [List.any_cons, Bool.or_eq_true, beq_iff_eq]
      rcases h with h | h | h
      · exact .inl h.symm
      · exact .inr (.inl h)
      · exact .inr (.inr h)
    · split
      · simp only [List.any_cons, Bool.or_eq_true, beq_iff_eq]
        rename_i h1 h2
        rcases h with h | h | h
        · exact .inl h.symm
        · exact .inl (h2.trans h)
        · exact .inr h
      · simp only [List.any_cons, Bool.or_eq_true, beq_iff_eq]
        rcases h with h | h | h
        · exact .inr (ih (.inl h))
        · exact .inl h
        · exact .inr (ih (.inr h))

/-! The profile table -/

theorem profileAt_mem {b : Build} {idx : BitVec 8} {p : Profile}
    (h : profileAt b idx = some p) : p ∈ b.profiles := List.mem_of_getElem? h

theorem legalIndex_iff (b : Build) (idx : BitVec 8) :
    legalIndex b idx = true ↔ ∃ p, profileAt b idx = some p := by
  simp only [legalIndex, profileAt, decide_eq_true_eq]
  constructor
  · intro h
    exact ⟨_, List.getElem?_eq_getElem h⟩
  · rintro ⟨p, h⟩
    exact (List.getElem?_eq_some_iff.mp h).1

theorem capacity_le_capMax {b : Build} {p : Profile} (h : p ∈ b.profiles) :
    bitBufferCapacity p ≤ capMax b := by
  unfold capMax
  generalize b.profiles = l at h
  induction l with
  | nil => simp at h
  | cons q rest ih =>
    simp only [List.map_cons, List.foldr_cons]
    rcases List.mem_cons.mp h with rfl | h
    · exact Nat.le_max_left _ _
    · exact Nat.le_trans (ih h) (Nat.le_max_right _ _)

theorem profileValid_iff (p : Profile) :
    profileValid p = true ↔ minPayload p.family ≤ p.payloadBytes ∧ p.payloadBytes ≤ plMax := by
  unfold profileValid
  rw [Bool.and_eq_true, decide_eq_true_iff, decide_eq_true_iff]

theorem profileValid_of_build {b : Build} {p : Profile} (hb : buildValid b = true)
    (h : p ∈ b.profiles) : profileValid p = true := by
  simp only [buildValid, Bool.and_eq_true, List.all_eq_true] at hb
  exact hb.1.1.1.1.2 p h

/-! Counters and registers of the RX step -/

theorem diagNext_toNat (was : Bool) (d : BitVec 8) :
    (diagNext was d).toNat = if was then d.toNat - 1 else min (d.toNat + 1) 255 := by
  revert d was; decide

theorem takeBit_shift_toNat (b : Bool) (r : RxState) :
    (r.takeBit b).shiftRegister.toNat = (2 * r.shiftRegister.toNat + b.toNat) % 2 ^ 24 := by
  have e : r.shiftRegister <<< 1 ||| (BitVec.ofBool b).setWidth 24
      = r.shiftRegister <<< 1 + (BitVec.ofBool b).setWidth 24 := by
    symm
    apply BitVec.add_eq_or_of_and_eq_zero
    ext i h
    cases b <;> by_cases h0 : i = 0 <;> simp [h0]
  rw [RxState.takeBit_shiftRegister, e, BitVec.toNat_add]
  have : ((BitVec.ofBool b).setWidth 24).toNat = b.toNat := by cases b <;> rfl
  simp only [this, BitVec.toNat_shiftLeft, Nat.shiftLeft_eq]
  omega

/-! The dispatcher -/

/-- The dispatcher appends R161's records and sets last_frame_kind, and does nothing else. -/
theorem dispatch_eq (k : FrameKind) (fam : Family) (relayEn : Bool) (bytes : List Byte)
    (r : RxState) (hk : k ≠ .none) :
    r.dispatch k fam relayEn bytes = .ok { r with
      eventQueue := r.eventQueue ++ recordTable k r.lastFrameKind relayEn fam bytes
      lastFrameKind := if k = .endOfTx then r.lastFrameKind else k } := by
  cases k with
  | none => exact absurd rfl hk
  | endOfTx =>
    cases r with
    | mk a b c d e f last g q =>
      cases last <;> simp [RxState.dispatch, RxState.dispatchEnd, RxState.emit, recordTable,
        plainRecord, newline]
  | voice =>
    cases relayEn <;> cases fam <;>
      simp [RxState.dispatch, RxState.dispatchVoice, RxState.relay, RxState.emit,
        RxState.setLast, recordTable, plainRecord, relayRecord, codecFrame]
  | _ =>
    cases relayEn <;>
      simp [RxState.dispatch, RxState.dispatchText, RxState.dispatchCallsign,
        RxState.dispatchRepeaterInfo, RxState.dispatchVideo, RxState.dispatchData,
        RxState.relay, RxState.emit, RxState.setLast, recordTable, plainRecord, relayRecord]

/-- R182. -/
theorem recordTable_length_le (k last : FrameKind) (relayEn : Bool) (fam : Family)
    (bytes : List Byte) : (recordTable k last relayEn fam bytes).length ≤ 3 := by
  cases k <;> cases relayEn <;> simp [recordTable, relayRecord]
  all_goals split <;> (try split) <;> simp

/-! The RX step -/

/-- The compare either finds nothing and changes nothing, or starts a frame (R126, R127). -/
theorem detect_eq (fam : Family) (r : RxState) :
    r.detect fam =
      if matchKind r.shiftRegister fam = .none then r
      else { r with
        syncFound := true, currentFrameKind := matchKind r.shiftRegister fam, bitIndex := 0 } := by
  unfold RxState.detect
  split
  · rename_i h
    simp [h]
  · rename_i h
    rw [if_neg h]

/-- An unsynchronised step (R122 to R127). -/
theorem observe_unsync {b : Build} {relayEn : Bool} {sym : Byte} {r : RxState} {p : Profile}
    (hp : profileAt b r.rxProfile = some p) (hs : r.syncFound = false) :
    r.observe b relayEn sym = .ok ((r.takeBit (symbolBit sym)).detect p.family) := by
  simp [RxState.observe, hp, hs]

/-- A synchronised step that does not complete the frame (R140). -/
theorem observe_store {b : Build} {relayEn : Bool} {sym : Byte} {r : RxState} {p : Profile}
    (hp : profileAt b r.rxProfile = some p) (hs : r.syncFound = true)
    (hc : r.bitIndex.toNat < capMax b)
    (ht : (r.bitIndex + 1).toNat ≠ target r.currentFrameKind p) :
    r.observe b relayEn sym =
      .ok ((r.takeBit (symbolBit sym)).store (symbolBit sym)) := by
  have hc' : (r.takeBit (symbolBit sym)).bitIndex.toNat < capMax b := hc
  have ht' : ((r.takeBit (symbolBit sym)).store (symbolBit sym)).bitIndex.toNat
      ≠ target ((r.takeBit (symbolBit sym)).store (symbolBit sym)).currentFrameKind p := ht
  simp only [RxState.observe, hp, hs, if_true, RxState.accumulate, if_pos hc', if_neg ht']

/-- A synchronised step that completes the frame (R145). -/
theorem observe_complete {b : Build} {relayEn : Bool} {sym : Byte} {r : RxState} {p : Profile}
    (hp : profileAt b r.rxProfile = some p) (hs : r.syncFound = true)
    (hk : r.currentFrameKind ≠ .none) (hc : r.bitIndex.toNat < capMax b)
    (ht : (r.bitIndex + 1).toNat = target r.currentFrameKind p) :
    r.observe b relayEn sym = .ok (RxState.syncReset
      { (r.takeBit (symbolBit sym)).store (symbolBit sym) with
        eventQueue := r.eventQueue ++ recordTable r.currentFrameKind r.lastFrameKind relayEn
          p.family (pack (BitBuf.write r.bitBuf r.bitIndex.toNat (symbolBit sym))
            (target r.currentFrameKind p))
        lastFrameKind :=
          if r.currentFrameKind = .endOfTx then r.lastFrameKind else r.currentFrameKind }) := by
  have hc' : (r.takeBit (symbolBit sym)).bitIndex.toNat < capMax b := hc
  have ht' : ((r.takeBit (symbolBit sym)).store (symbolBit sym)).bitIndex.toNat
      = target ((r.takeBit (symbolBit sym)).store (symbolBit sym)).currentFrameKind p := ht
  simp only [RxState.observe, hp, hs, if_true, RxState.accumulate, if_pos hc', if_pos ht']
  have hk' : ((r.takeBit (symbolBit sym)).store (symbolBit sym)).currentFrameKind ≠ .none := hk
  simp only [RxState.complete, dispatch_eq _ _ _ _ _ hk']
  rfl

/-- Everything an RX step can do when it answers a next state. -/
theorem observe_cases {b : Build} {relayEn : Bool} {sym : Byte} {r r' : RxState}
    (h : r.observe b relayEn sym = .ok r') :
    ∃ p, profileAt b r.rxProfile = some p ∧
      ((r.syncFound = false ∧ r' = (r.takeBit (symbolBit sym)).detect p.family)
      ∨ (r.syncFound = true ∧ r.bitIndex.toNat < capMax b
          ∧ (r.bitIndex + 1).toNat ≠ target r.currentFrameKind p
          ∧ r' = (r.takeBit (symbolBit sym)).store (symbolBit sym))
      ∨ (r.syncFound = true ∧ r.bitIndex.toNat < capMax b ∧ r.currentFrameKind ≠ .none
          ∧ (r.bitIndex + 1).toNat = target r.currentFrameKind p
          ∧ r' = RxState.syncReset
            { (r.takeBit (symbolBit sym)).store (symbolBit sym) with
              eventQueue := r.eventQueue ++ recordTable r.currentFrameKind r.lastFrameKind
                relayEn p.family (pack (BitBuf.write r.bitBuf r.bitIndex.toNat (symbolBit sym))
                  (target r.currentFrameKind p))
              lastFrameKind :=
                if r.currentFrameKind = .endOfTx then r.lastFrameKind
                else r.currentFrameKind })) := by
  cases hp : profileAt b r.rxProfile with
  | none => simp [RxState.observe, hp] at h
  | some p =>
    refine ⟨p, rfl, ?_⟩
    cases hs : r.syncFound with
    | false =>
      rw [observe_unsync hp hs] at h
      exact .inl ⟨rfl, (Except.ok.inj h).symm⟩
    | true =>
      by_cases hc : r.bitIndex.toNat < capMax b
      · by_cases ht : (r.bitIndex + 1).toNat = target r.currentFrameKind p
        · by_cases hk : r.currentFrameKind = .none
          · have hk' : ((r.takeBit (symbolBit sym)).store (symbolBit sym)).currentFrameKind
                = .none := hk
            have hc' : (r.takeBit (symbolBit sym)).bitIndex.toNat < capMax b := hc
            have ht' : ((r.takeBit (symbolBit sym)).store (symbolBit sym)).bitIndex.toNat
                = target ((r.takeBit (symbolBit sym)).store (symbolBit sym)).currentFrameKind p
                := ht
            simp only [RxState.observe, hp, hs, if_true, RxState.accumulate, if_pos hc',
              if_pos ht'] at h
            simp only [RxState.complete, hk', RxState.dispatch] at h
            cases h
          · rw [observe_complete hp hs hk hc ht] at h
            exact .inr (.inr ⟨rfl, hc, hk, ht, (Except.ok.inj h).symm⟩)
        · rw [observe_store hp hs hc ht] at h
          exact .inr (.inl ⟨rfl, hc, ht, (Except.ok.inj h).symm⟩)
      · have hc' : ¬ (r.takeBit (symbolBit sym)).bitIndex.toNat < capMax b := hc
        simp only [RxState.observe, hp, hs, if_true, RxState.accumulate, if_neg hc'] at h
        cases h

/-- Everything OBSERVE_BIT can do when it answers a next state. -/
theorem execObserveBit_cases {sym : Byte} {s t : State} (h : execObserveBit sym s = .next t) :
    (s.rxReady = false ∧ t = s)
    ∨ (s.rxReady = true ∧ ∃ r, s.rx.observe s.build s.ctl.relayEn sym = .ok r
        ∧ t = { s with rx := r, env := { s.env with rxPort := none } }) := by
  unfold execObserveBit at h
  cases hr : s.rxReady with
  | false =>
    rw [hr] at h
    simp only [Bool.false_eq_true, if_false, Host.Outcome.next.injEq] at h
    exact .inl ⟨rfl, h.symm⟩
  | true =>
    rw [hr, if_pos rfl] at h
    split at h
    · rename_i r ho
      exact .inr ⟨rfl, r, ho, (Host.Outcome.next.inj h).symm⟩
    · cases h

theorem rxReady_iff (s : State) :
    s.rxReady = true ↔ s.ctl.rxEn = true ∧ s.rx.eventQueue.length + 3 ≤ s.build.evtDepth := by
  simp only [State.rxReady, Bool.and_eq_true, decide_eq_true_eq]
  constructor <;> rintro ⟨h1, h2⟩ <;> exact ⟨h1, by omega⟩

/-! The TX engine -/

theorem txReady_iff (s : State) :
    s.txReady = true ↔ s.ctl.txEn = true ∧ s.tx.engine = .idle := by
  cases he : s.tx.engine <;> simp [State.txReady, he, TxEngine.isBusy]

/-- TX-START of an enabled engine (R190). -/
theorem startCommand_ready {d : TxCmd} {c : Word} {s : State} {p : Profile}
    (hr : s.txReady = true) (hp : profileAt s.build s.tx.txProfile = some p) :
    startCommand d c s = .next { s with
      tx := { s.tx with
        cmdQueue := s.tx.cmdQueue.tail, engine := .busy (startJob d c s.tx.txProfile p) }
      ctl := if d = .illegal then s.ctl.raise .cmdError c else s.ctl } := by
  cases d <;> simp [startCommand, hr, hp, raiseIfIllegal, State.raiseError]

theorem startCommand_held {d : TxCmd} {c : Word} {s : State} (hr : s.txReady = false) :
    startCommand d c s = .next s := by
  simp [startCommand, hr]

/-- Everything TX-START can do when it answers a next state. -/
theorem startCommand_cases {d : TxCmd} {c : Word} {s t : State}
    (h : startCommand d c s = .next t) :
    (s.txReady = false ∧ t = s)
    ∨ (s.txReady = true ∧ ∃ p, profileAt s.build s.tx.txProfile = some p
        ∧ t = { s with
          tx := { s.tx with
            cmdQueue := s.tx.cmdQueue.tail, engine := .busy (startJob d c s.tx.txProfile p) }
          ctl := if d = .illegal then s.ctl.raise .cmdError c else s.ctl }) := by
  cases hr : s.txReady with
  | false =>
    rw [startCommand_held hr] at h
    exact .inl ⟨rfl, (Host.Outcome.next.inj h).symm⟩
  | true =>
    cases hp : profileAt s.build s.tx.txProfile with
    | none => simp [startCommand, hr, hp] at h
    | some p =>
      rw [startCommand_ready hr hp] at h
      exact .inr ⟨rfl, p, rfl, (Host.Outcome.next.inj h).symm⟩

/-- Everything a busy engine's turn can do when it answers a next state. -/
theorem txContinue_cases {j : TxJob} {s t : State} (h : s.txContinue j = .next t) :
    t = s
    ∨ (∃ b rest, j.outList = b :: rest ∧ s.env.sinkReady = true ∧ t = s.txOut j b rest)
    ∨ (j.outList = [] ∧ j.need = 0 ∧ t = s.txEnd)
    ∨ (∃ b rest p, j.outList = [] ∧ j.need ≠ 0 ∧ s.tx.payQueue = b :: rest
        ∧ profileAt s.build j.latched = some p ∧ t = s.txTake j p b rest) := by
  unfold State.txContinue at h
  cases ho : j.outList with
  | cons b rest =>
    simp only [ho] at h
    cases hk : s.env.sinkReady with
    | true =>
      simp only [hk, if_true, Host.Outcome.next.injEq] at h
      exact .inr (.inl ⟨b, rest, rfl, rfl, h.symm⟩)
    | false =>
      simp only [hk, Bool.false_eq_true, if_false, Host.Outcome.next.injEq] at h
      exact .inl h.symm
  | nil =>
    simp only [ho] at h
    by_cases hn : j.need = 0
    · rw [if_pos hn] at h
      exact .inr (.inr (.inl ⟨rfl, hn, (Host.Outcome.next.inj h).symm⟩))
    · rw [if_neg hn] at h
      cases hq : s.tx.payQueue with
      | nil =>
        simp only [hq, Host.Outcome.next.injEq] at h
        exact .inl h.symm
      | cons b rest =>
        cases hp : profileAt s.build j.latched with
        | none => simp [hq, hp] at h
        | some p =>
          simp only [hq, hp, Host.Outcome.next.injEq] at h
          exact .inr (.inr (.inr ⟨b, rest, p, rfl, hn, rfl, rfl, h.symm⟩))

end Sys2Proof.Machine
end

