-- ==== Sys2Proof/Laws/PerInstr.lean ====
section
/-!
SUPPORT. The family TableRow, constructor by constructor: the word that `encode` gives for an
instruction has the fixed bits (mask and match) of its row in spec/opcode_table.json, and the rows
with no fixed bits carry their operand unchanged.
-/
namespace Sys2Proof

/-- A command word under the mask of its OP and KIND is those two fields (R86). -/
theorem commandWord_and_row (op kind : BitVec 4) (len : BitVec 24) :
    commandWord op kind len &&& 0xFF000000#32 = commandWord op kind 0 := by
  unfold commandWord fieldAt
  apply BitVec.eq_of_getLsbD_eq
  intro i h
  have hm : (0xFF000000#32).getLsbD i = decide (24 ≤ i ∧ i < 32) := by
    revert h; revert i; decide
  simp only [BitVec.getLsbD_and, BitVec.getLsbD_or, BitVec.getLsbD_shiftLeft,
    BitVec.getLsbD_setWidth, hm]
  by_cases h1 : i < 24
  · simp [h, h1, show i < 28 by omega]
  · simp [h, h1, show 24 ≤ i by omega]

/-- A command word under the mask of its OP is that field (R86). -/
theorem commandWord_and_op (op kind : BitVec 4) (len : BitVec 24) :
    commandWord op kind len &&& 0xF0000000#32 = commandWord op 0 0 := by
  unfold commandWord fieldAt
  apply BitVec.eq_of_getLsbD_eq
  intro i h
  have hm : (0xF0000000#32).getLsbD i = decide (28 ≤ i ∧ i < 32) := by
    revert h; revert i; decide
  simp only [BitVec.getLsbD_and, BitVec.getLsbD_or, BitVec.getLsbD_shiftLeft,
    BitVec.getLsbD_setWidth, hm]
  by_cases h1 : i < 28
  · simp [h, h1, show ¬ 28 ≤ i by omega]
  · simp [h, h1, show 28 ≤ i by omega,
      BitVec.getLsbD_of_ge kind (i - 24) (by omega), BitVec.getLsbD_of_ge len i (by omega)]

namespace Laws.TableRow

/-- The fixed bits of a table row: its mask and its match, by constructor. -/
def fixedBits : Instr → Option (Nat × Nat)
  | .observeBit _ => none
  | .nop _ _ => some (0xF0000000, 0x00000000)
  | .frameVoice _ => some (0xFF000000, 0x11000000)
  | .frameText _ => some (0xFF000000, 0x12000000)
  | .frameVideo _ => some (0xFF000000, 0x13000000)
  | .frameData _ => some (0xFF000000, 0x14000000)
  | .frameCallsign _ => some (0xFF000000, 0x15000000)
  | .frameRepinfo _ => some (0xFF000000, 0x16000000)
  | .bulkVoice _ => some (0xFF000000, 0x21000000)
  | .bulkText _ => some (0xFF000000, 0x22000000)
  | .bulkVideo _ => some (0xFF000000, 0x23000000)
  | .bulkData _ => some (0xFF000000, 0x24000000)
  | .bulkCallsign _ => some (0xFF000000, 0x25000000)
  | .bulkRepinfo _ => some (0xFF000000, 0x26000000)
  | .preamble => some (0xFFFFFFFF, 0x30000000)
  | .endMarker => some (0xFFFFFFFF, 0x40000000)
  | .illegalFrameKind0 _ => some (0xFF000000, 0x10000000)
  | .illegalFrameKind7 _ => some (0xFF000000, 0x17000000)
  | .illegalFrameKind8 _ => some (0xFF000000, 0x18000000)
  | .illegalFrameKind9 _ => some (0xFF000000, 0x19000000)
  | .illegalFrameKindA _ => some (0xFF000000, 0x1A000000)
  | .illegalFrameKindB _ => some (0xFF000000, 0x1B000000)
  | .illegalFrameKindC _ => some (0xFF000000, 0x1C000000)
  | .illegalFrameKindD _ => some (0xFF000000, 0x1D000000)
  | .illegalFrameKindE _ => some (0xFF000000, 0x1E000000)
  | .illegalFrameKindF _ => some (0xFF000000, 0x1F000000)
  | .illegalBulkKind0 _ => some (0xFF000000, 0x20000000)
  | .illegalBulkKind7 _ => some (0xFF000000, 0x27000000)
  | .illegalBulkKind8 _ => some (0xFF000000, 0x28000000)
  | .illegalBulkKind9 _ => some (0xFF000000, 0x29000000)
  | .illegalBulkKindA _ => some (0xFF000000, 0x2A000000)
  | .illegalBulkKindB _ => some (0xFF000000, 0x2B000000)
  | .illegalBulkKindC _ => some (0xFF000000, 0x2C000000)
  | .illegalBulkKindD _ => some (0xFF000000, 0x2D000000)
  | .illegalBulkKindE _ => some (0xFF000000, 0x2E000000)
  | .illegalBulkKindF _ => some (0xFF000000, 0x2F000000)
  | .illegalPreamble _ _ => some (0xF0000000, 0x30000000)
  | .illegalEndMarker _ _ => some (0xF0000000, 0x40000000)
  | .illegalOp5 _ _ => some (0xF0000000, 0x50000000)
  | .illegalOp6 _ _ => some (0xF0000000, 0x60000000)
  | .illegalOp7 _ _ => some (0xF0000000, 0x70000000)
  | .illegalOp8 _ _ => some (0xF0000000, 0x80000000)
  | .illegalOp9 _ _ => some (0xF0000000, 0x90000000)
  | .illegalOpA _ _ => some (0xF0000000, 0xA0000000)
  | .illegalOpB _ _ => some (0xF0000000, 0xB0000000)
  | .illegalOpC _ _ => some (0xF0000000, 0xC0000000)
  | .illegalOpD _ _ => some (0xF0000000, 0xD0000000)
  | .illegalOpE _ _ => some (0xF0000000, 0xE0000000)
  | .illegalOpF _ _ => some (0xF0000000, 0xF0000000)
  | .rdCtrl => some (0x1FF, 0x000)
  | .rdRxProfile => some (0x1FF, 0x001)
  | .rdTxProfile => some (0x1FF, 0x002)
  | .rdStatus => some (0x1FF, 0x003)
  | .rdDiag => some (0x1FF, 0x004)
  | .rdBitIndex => some (0x1FF, 0x005)
  | .rdShiftReg => some (0x1FF, 0x006)
  | .rdErrInfo => some (0x1FF, 0x007)
  | .rdRxGeom => some (0x1FF, 0x008)
  | .rdTxGeom => some (0x1FF, 0x009)
  | .wrCtrl _ => some (0x1FF, 0x100)
  | .wrRxProfile _ => some (0x1FF, 0x101)
  | .wrTxProfile _ => some (0x1FF, 0x102)
  | .wrStatus _ => some (0x1FF, 0x103)
  | .wrDiag _ => some (0x1FF, 0x104)
  | .wrBitIndex _ => some (0x1FF, 0x105)
  | .wrShiftReg _ => some (0x1FF, 0x106)
  | .wrErrInfo _ => some (0x1FF, 0x107)
  | .wrRxGeom _ => some (0x1FF, 0x108)
  | .wrTxGeom _ => some (0x1FF, 0x109)
  | .rdReserved0A0B _ => some (0x1FE, 0x00A)
  | .rdReserved0C0F _ => some (0x1FC, 0x00C)
  | .rdReserved101F _ => some (0x1F0, 0x010)
  | .rdReserved203F _ => some (0x1E0, 0x020)
  | .rdReserved407F _ => some (0x1C0, 0x040)
  | .rdReserved80FF _ => some (0x180, 0x080)
  | .wrReserved0A0B _ _ => some (0x1FE, 0x10A)
  | .wrReserved0C0F _ _ => some (0x1FC, 0x10C)
  | .wrReserved101F _ _ => some (0x1F0, 0x110)
  | .wrReserved203F _ _ => some (0x1E0, 0x120)
  | .wrReserved407F _ _ => some (0x1C0, 0x140)
  | .wrReserved80FF _ _ => some (0x180, 0x180)
  | .pushc _ => none
  | .pushb _ => none
  | .pope => none

/-- The encoded item has the fixed bits of its table row; a row with no fixed bits carries its
operand unchanged (R81, R86 to R90, R98, R239). -/
def Statement (i : Instr) : Prop :=
  match encode i, fixedBits i with
  | .cmd c, some (mask, pattern) => c &&& BitVec.ofNat 32 mask = BitVec.ofNat 32 pattern
  | .host (.access w _), some (mask, pattern) =>
    w &&& BitVec.ofNat 9 mask = BitVec.ofNat 9 pattern
  | .rxsym x, none => i = .observeBit x
  | .host (.pushc c), none => i = .pushc c
  | .host (.pushb b), none => i = .pushb b
  | .host .pope, none => i = .pope
  | _, _ => False

theorem observeBit (sym : Byte) : Statement (.observeBit sym) := rfl
theorem nop (kind : BitVec 4) (len : BitVec 24) : Statement (.nop kind len) :=
  commandWord_and_op 0x0 kind len
theorem frameVoice (len : BitVec 24) : Statement (.frameVoice len) :=
  commandWord_and_row 0x1 0x1 len
theorem frameText (len : BitVec 24) : Statement (.frameText len) :=
  commandWord_and_row 0x1 0x2 len
theorem frameVideo (len : BitVec 24) : Statement (.frameVideo len) :=
  commandWord_and_row 0x1 0x3 len
theorem frameData (len : BitVec 24) : Statement (.frameData len) :=
  commandWord_and_row 0x1 0x4 len
theorem frameCallsign (len : BitVec 24) : Statement (.frameCallsign len) :=
  commandWord_and_row 0x1 0x5 len
theorem frameRepinfo (len : BitVec 24) : Statement (.frameRepinfo len) :=
  commandWord_and_row 0x1 0x6 len
theorem bulkVoice (len : BitVec 24) : Statement (.bulkVoice len) :=
  commandWord_and_row 0x2 0x1 len
theorem bulkText (len : BitVec 24) : Statement (.bulkText len) :=
  commandWord_and_row 0x2 0x2 len
theorem bulkVideo (len : BitVec 24) : Statement (.bulkVideo len) :=
  commandWord_and_row 0x2 0x3 len
theorem bulkData (len : BitVec 24) : Statement (.bulkData len) :=
  commandWord_and_row 0x2 0x4 len
theorem bulkCallsign (len : BitVec 24) : Statement (.bulkCallsign len) :=
  commandWord_and_row 0x2 0x5 len
theorem bulkRepinfo (len : BitVec 24) : Statement (.bulkRepinfo len) :=
  commandWord_and_row 0x2 0x6 len
theorem preamble : Statement .preamble :=
  by
  show commandWord 0x3 0 0 &&& _ = _
  decide
theorem endMarker : Statement .endMarker :=
  by
  show commandWord 0x4 0 0 &&& _ = _
  decide
theorem illegalFrameKind0 (len : BitVec 24) : Statement (.illegalFrameKind0 len) :=
  commandWord_and_row 0x1 0x0 len
theorem illegalFrameKind7 (len : BitVec 24) : Statement (.illegalFrameKind7 len) :=
  commandWord_and_row 0x1 0x7 len
theorem illegalFrameKind8 (len : BitVec 24) : Statement (.illegalFrameKind8 len) :=
  commandWord_and_row 0x1 0x8 len
theorem illegalFrameKind9 (len : BitVec 24) : Statement (.illegalFrameKind9 len) :=
  commandWord_and_row 0x1 0x9 len
theorem illegalFrameKindA (len : BitVec 24) : Statement (.illegalFrameKindA len) :=
  commandWord_and_row 0x1 0xA len
theorem illegalFrameKindB (len : BitVec 24) : Statement (.illegalFrameKindB len) :=
  commandWord_and_row 0x1 0xB len
theorem illegalFrameKindC (len : BitVec 24) : Statement (.illegalFrameKindC len) :=
  commandWord_and_row 0x1 0xC len
theorem illegalFrameKindD (len : BitVec 24) : Statement (.illegalFrameKindD len) :=
  commandWord_and_row 0x1 0xD len
theorem illegalFrameKindE (len : BitVec 24) : Statement (.illegalFrameKindE len) :=
  commandWord_and_row 0x1 0xE len
theorem illegalFrameKindF (len : BitVec 24) : Statement (.illegalFrameKindF len) :=
  commandWord_and_row 0x1 0xF len
theorem illegalBulkKind0 (len : BitVec 24) : Statement (.illegalBulkKind0 len) :=
  commandWord_and_row 0x2 0x0 len
theorem illegalBulkKind7 (len : BitVec 24) : Statement (.illegalBulkKind7 len) :=
  commandWord_and_row 0x2 0x7 len
theorem illegalBulkKind8 (len : BitVec 24) : Statement (.illegalBulkKind8 len) :=
  commandWord_and_row 0x2 0x8 len
theorem illegalBulkKind9 (len : BitVec 24) : Statement (.illegalBulkKind9 len) :=
  commandWord_and_row 0x2 0x9 len
theorem illegalBulkKindA (len : BitVec 24) : Statement (.illegalBulkKindA len) :=
  commandWord_and_row 0x2 0xA len
theorem illegalBulkKindB (len : BitVec 24) : Statement (.illegalBulkKindB len) :=
  commandWord_and_row 0x2 0xB len
theorem illegalBulkKindC (len : BitVec 24) : Statement (.illegalBulkKindC len) :=
  commandWord_and_row 0x2 0xC len
theorem illegalBulkKindD (len : BitVec 24) : Statement (.illegalBulkKindD len) :=
  commandWord_and_row 0x2 0xD len
theorem illegalBulkKindE (len : BitVec 24) : Statement (.illegalBulkKindE len) :=
  commandWord_and_row 0x2 0xE len
theorem illegalBulkKindF (len : BitVec 24) : Statement (.illegalBulkKindF len) :=
  commandWord_and_row 0x2 0xF len
theorem illegalPreamble (kind : BitVec 4) (len : BitVec 24) :
    Statement (.illegalPreamble kind len) :=
  commandWord_and_op 0x3 kind len
theorem illegalEndMarker (kind : BitVec 4) (len : BitVec 24) :
    Statement (.illegalEndMarker kind len) :=
  commandWord_and_op 0x4 kind len
theorem illegalOp5 (kind : BitVec 4) (len : BitVec 24) : Statement (.illegalOp5 kind len) :=
  commandWord_and_op 0x5 kind len
theorem illegalOp6 (kind : BitVec 4) (len : BitVec 24) : Statement (.illegalOp6 kind len) :=
  commandWord_and_op 0x6 kind len
theorem illegalOp7 (kind : BitVec 4) (len : BitVec 24) : Statement (.illegalOp7 kind len) :=
  commandWord_and_op 0x7 kind len
theorem illegalOp8 (kind : BitVec 4) (len : BitVec 24) : Statement (.illegalOp8 kind len) :=
  commandWord_and_op 0x8 kind len
theorem illegalOp9 (kind : BitVec 4) (len : BitVec 24) : Statement (.illegalOp9 kind len) :=
  commandWord_and_op 0x9 kind len
theorem illegalOpA (kind : BitVec 4) (len : BitVec 24) : Statement (.illegalOpA kind len) :=
  commandWord_and_op 0xA kind len
theorem illegalOpB (kind : BitVec 4) (len : BitVec 24) : Statement (.illegalOpB kind len) :=
  commandWord_and_op 0xB kind len
theorem illegalOpC (kind : BitVec 4) (len : BitVec 24) : Statement (.illegalOpC kind len) :=
  commandWord_and_op 0xC kind len
theorem illegalOpD (kind : BitVec 4) (len : BitVec 24) : Statement (.illegalOpD kind len) :=
  commandWord_and_op 0xD kind len
theorem illegalOpE (kind : BitVec 4) (len : BitVec 24) : Statement (.illegalOpE kind len) :=
  commandWord_and_op 0xE kind len
theorem illegalOpF (kind : BitVec 4) (len : BitVec 24) : Statement (.illegalOpF kind len) :=
  commandWord_and_op 0xF kind len
theorem rdCtrl : Statement .rdCtrl := by
  show _ &&& _ = _; decide
theorem rdRxProfile : Statement .rdRxProfile := by
  show _ &&& _ = _; decide
theorem rdTxProfile : Statement .rdTxProfile := by
  show _ &&& _ = _; decide
theorem rdStatus : Statement .rdStatus := by
  show _ &&& _ = _; decide
theorem rdDiag : Statement .rdDiag := by
  show _ &&& _ = _; decide
theorem rdBitIndex : Statement .rdBitIndex := by
  show _ &&& _ = _; decide
theorem rdShiftReg : Statement .rdShiftReg := by
  show _ &&& _ = _; decide
theorem rdErrInfo : Statement .rdErrInfo := by
  show _ &&& _ = _; decide
theorem rdRxGeom : Statement .rdRxGeom := by
  show _ &&& _ = _; decide
theorem rdTxGeom : Statement .rdTxGeom := by
  show _ &&& _ = _; decide
theorem wrCtrl (v : Word) : Statement (.wrCtrl v) := by
  show _ &&& _ = _; decide
theorem wrRxProfile (v : Word) : Statement (.wrRxProfile v) := by
  show _ &&& _ = _; decide
theorem wrTxProfile (v : Word) : Statement (.wrTxProfile v) := by
  show _ &&& _ = _; decide
theorem wrStatus (v : Word) : Statement (.wrStatus v) := by
  show _ &&& _ = _; decide
theorem wrDiag (v : Word) : Statement (.wrDiag v) := by
  show _ &&& _ = _; decide
theorem wrBitIndex (v : Word) : Statement (.wrBitIndex v) := by
  show _ &&& _ = _; decide
theorem wrShiftReg (v : Word) : Statement (.wrShiftReg v) := by
  show _ &&& _ = _; decide
theorem wrErrInfo (v : Word) : Statement (.wrErrInfo v) := by
  show _ &&& _ = _; decide
theorem wrRxGeom (v : Word) : Statement (.wrRxGeom v) := by
  show _ &&& _ = _; decide
theorem wrTxGeom (v : Word) : Statement (.wrTxGeom v) := by
  show _ &&& _ = _; decide
theorem rdReserved0A0B (x : BitVec 1) : Statement (.rdReserved0A0B x) := by
  have h : ∀ y : BitVec 1, (0#1 ++ HostReg.index (.reserved0A0B y)) &&& BitVec.ofNat 9 0x1FE
      = BitVec.ofNat 9 0x00A := by decide
  exact h x
theorem rdReserved0C0F (x : BitVec 2) : Statement (.rdReserved0C0F x) := by
  have h : ∀ y : BitVec 2, (0#1 ++ HostReg.index (.reserved0C0F y)) &&& BitVec.ofNat 9 0x1FC
      = BitVec.ofNat 9 0x00C := by decide
  exact h x
theorem rdReserved101F (x : BitVec 4) : Statement (.rdReserved101F x) := by
  have h : ∀ y : BitVec 4, (0#1 ++ HostReg.index (.reserved101F y)) &&& BitVec.ofNat 9 0x1F0
      = BitVec.ofNat 9 0x010 := by decide
  exact h x
theorem rdReserved203F (x : BitVec 5) : Statement (.rdReserved203F x) := by
  have h : ∀ y : BitVec 5, (0#1 ++ HostReg.index (.reserved203F y)) &&& BitVec.ofNat 9 0x1E0
      = BitVec.ofNat 9 0x020 := by decide
  exact h x
theorem rdReserved407F (x : BitVec 6) : Statement (.rdReserved407F x) := by
  have h : ∀ y : BitVec 6, (0#1 ++ HostReg.index (.reserved407F y)) &&& BitVec.ofNat 9 0x1C0
      = BitVec.ofNat 9 0x040 := by decide
  exact h x
theorem rdReserved80FF (x : BitVec 7) : Statement (.rdReserved80FF x) := by
  have h : ∀ y : BitVec 7, (0#1 ++ HostReg.index (.reserved80FF y)) &&& BitVec.ofNat 9 0x180
      = BitVec.ofNat 9 0x080 := by decide
  exact h x
theorem wrReserved0A0B (x : BitVec 1) (v : Word) : Statement (.wrReserved0A0B x v) := by
  have h : ∀ y : BitVec 1, (1#1 ++ HostReg.index (.reserved0A0B y)) &&& BitVec.ofNat 9 0x1FE
      = BitVec.ofNat 9 0x10A := by decide
  exact h x
theorem wrReserved0C0F (x : BitVec 2) (v : Word) : Statement (.wrReserved0C0F x v) := by
  have h : ∀ y : BitVec 2, (1#1 ++ HostReg.index (.reserved0C0F y)) &&& BitVec.ofNat 9 0x1FC
      = BitVec.ofNat 9 0x10C := by decide
  exact h x
theorem wrReserved101F (x : BitVec 4) (v : Word) : Statement (.wrReserved101F x v) := by
  have h : ∀ y : BitVec 4, (1#1 ++ HostReg.index (.reserved101F y)) &&& BitVec.ofNat 9 0x1F0
      = BitVec.ofNat 9 0x110 := by decide
  exact h x
theorem wrReserved203F (x : BitVec 5) (v : Word) : Statement (.wrReserved203F x v) := by
  have h : ∀ y : BitVec 5, (1#1 ++ HostReg.index (.reserved203F y)) &&& BitVec.ofNat 9 0x1E0
      = BitVec.ofNat 9 0x120 := by decide
  exact h x
theorem wrReserved407F (x : BitVec 6) (v : Word) : Statement (.wrReserved407F x v) := by
  have h : ∀ y : BitVec 6, (1#1 ++ HostReg.index (.reserved407F y)) &&& BitVec.ofNat 9 0x1C0
      = BitVec.ofNat 9 0x140 := by decide
  exact h x
theorem wrReserved80FF (x : BitVec 7) (v : Word) : Statement (.wrReserved80FF x v) := by
  have h : ∀ y : BitVec 7, (1#1 ++ HostReg.index (.reserved80FF y)) &&& BitVec.ofNat 9 0x180
      = BitVec.ofNat 9 0x180 := by decide
  exact h x
theorem pushc (c : Word) : Statement (.pushc c) := rfl
theorem pushb (b : Byte) : Statement (.pushb b) := rfl
theorem pope : Statement .pope := rfl

end Laws.TableRow

end Sys2Proof
end

