-- ==== Sys2Proof/Laws/Step.lean ====
section
/-!
SUPPORT. What a host operation and a whole step can do, said once.
-/
namespace Sys2Proof.Machine

open Sys2Proof

/-- A read returns some value and does nothing else (R230). -/
theorem exec_read_cases {r : HostReg} {s t : State} (h : exec (readRow r) s = .next t) :
    ∃ v, t = s.hostReturn v := by
  cases r
  case rxGeom =>
    simp only [readRow, exec, execRdRxGeom] at h
    split at h
    · exact ⟨_, (Host.Outcome.next.inj h).symm⟩
    · cases h
  case txGeom =>
    simp only [readRow, exec, execRdTxGeom] at h
    split at h
    · exact ⟨_, (Host.Outcome.next.inj h).symm⟩
    · cases h
  all_goals exact ⟨_, (Host.Outcome.next.inj h).symm⟩

/-- A write is one of the four that act, or it is ignored (R231 to R238). -/
theorem exec_write_cases {r : HostReg} {v : Word} {s t : State}
    (h : exec (writeRow v r) s = .next t) :
    (r = .ctrl ∧ execWrCtrl v s = .next t)
    ∨ (r = .rxProfile ∧ execWrRxProfile v s = .next t)
    ∨ (r = .txProfile ∧ execWrTxProfile v s = .next t)
    ∨ (r = .status ∧ execWrStatus v s = .next t)
    ∨ t = s.hostDone := by
  cases r
  case ctrl => exact .inl ⟨rfl, h⟩
  case rxProfile => exact .inr (.inl ⟨rfl, h⟩)
  case txProfile => exact .inr (.inr (.inl ⟨rfl, h⟩))
  case status => exact .inr (.inr (.inr (.inl ⟨rfl, h⟩)))
  all_goals exact .inr (.inr (.inr (.inr (Host.Outcome.next.inj h).symm)))

/-- Everything a host operation can do when it answers a next state. -/
theorem exec_host_cases {op : HostOp} {s t : State} (h : exec (decodeHost op) s = .next t) :
    t = s ∨ t = s.hostDone ∨ (∃ v, t = s.hostReturn v)
    ∨ (∃ v, op = .access 0x100 v ∧ execWrCtrl v s = .next t)
    ∨ (∃ v, op = .access 0x101 v ∧ execWrRxProfile v s = .next t)
    ∨ (∃ v, op = .access 0x102 v ∧ execWrTxProfile v s = .next t)
    ∨ (∃ v, op = .access 0x103 v ∧ execWrStatus v s = .next t)
    ∨ (∃ c, op = .pushc c ∧ s.tx.cmdQueue.length < s.build.cmdDepth
        ∧ t = { s with tx := { s.tx with cmdQueue := s.tx.cmdQueue ++ [c] } }.hostDone)
    ∨ (∃ b, op = .pushb b ∧ s.tx.payQueue.length < s.build.payDepth
        ∧ t = { s with tx := { s.tx with payQueue := s.tx.payQueue ++ [b] } }.hostDone)
    ∨ (∃ e rest, op = .pope ∧ s.rx.eventQueue = e :: rest
        ∧ t = (s.popEvent e rest).hostDone) := by
  cases op with
  | access w v =>
    have hw := access_word_cases w
    cases hb : w.getLsbD 8 with
    | false =>
      simp only [decodeHost, decodeAccess, hb, Bool.false_eq_true, if_false] at h
      exact .inr (.inr (.inl (exec_read_cases h)))
    | true =>
      simp only [hb, if_true] at hw
      simp only [decodeHost, decodeAccess, hb, if_true] at h
      have hi := index_ofIndex (w.extractLsb' 0 8)
      rcases exec_write_cases h with ⟨hr, h⟩ | ⟨hr, h⟩ | ⟨hr, h⟩ | ⟨hr, h⟩ | h
      · rw [hr] at hi
        rw [← hi] at hw
        exact .inr (.inr (.inr (.inl ⟨v, by rw [hw]; rfl, h⟩)))
      · rw [hr] at hi
        rw [← hi] at hw
        exact .inr (.inr (.inr (.inr (.inl ⟨v, by rw [hw]; rfl, h⟩))))
      · rw [hr] at hi
        rw [← hi] at hw
        exact .inr (.inr (.inr (.inr (.inr (.inl ⟨v, by rw [hw]; rfl, h⟩)))))
      · rw [hr] at hi
        rw [← hi] at hw
        exact .inr (.inr (.inr (.inr (.inr (.inr (.inl ⟨v, by rw [hw]; rfl, h⟩))))))
      · exact .inr (.inl h)
  | pushc c =>
    simp only [decodeHost, exec, execPushc] at h
    split at h
    · rename_i hl
      exact .inr (.inr (.inr (.inr (.inr (.inr (.inr (.inl
        ⟨c, rfl, hl, (Host.Outcome.next.inj h).symm⟩)))))))
    · exact .inl (Host.Outcome.next.inj h).symm
  | pushb b =>
    simp only [decodeHost, exec, execPushb] at h
    split at h
    · rename_i hl
      exact .inr (.inr (.inr (.inr (.inr (.inr (.inr (.inr (.inl
        ⟨b, rfl, hl, (Host.Outcome.next.inj h).symm⟩))))))))
    · exact .inl (Host.Outcome.next.inj h).symm
  | pope =>
    simp only [decodeHost, exec, execPope] at h
    split at h
    · rename_i e rest hq
      exact .inr (.inr (.inr (.inr (.inr (.inr (.inr (.inr (.inr
        ⟨e, rest, rfl, hq, (Host.Outcome.next.inj h).symm⟩))))))))
    · exact .inl (Host.Outcome.next.inj h).symm

/-- Everything a step can do, by the turn it spends: no turn, an RX step on the offered symbol,
TX-START of the first command, a busy engine's own step, a host operation, or an outside agent, reset
or hold, which `ownTurn` gives. -/
theorem step_cases {s : State} {o : Host.Outcome State Fault Refusal} (h : step s = o) :
    (s.env.schedule = [] ∧ o = .next s)
    ∨ (∃ rest sym, s.env.schedule = .rx :: rest ∧ s.env.rxPort = some sym
        ∧ o = execObserveBit sym s.dropTurn)
    ∨ (∃ rest c cs, s.env.schedule = .tx :: rest ∧ s.tx.engine = .idle
        ∧ s.tx.cmdQueue = c :: cs ∧ o = exec (decodeCommand c) s.dropTurn)
    ∨ (∃ rest j, s.env.schedule = .tx :: rest ∧ s.tx.engine = .busy j
        ∧ o = s.dropTurn.txContinue j)
    ∨ (∃ rest op ops, s.env.schedule = .host :: rest ∧ s.env.hostProg = op :: ops
        ∧ o = exec (decodeHost op) s.dropTurn)
    ∨ (∃ rest, s.env.schedule = .bitSource :: rest ∧ o = .next s.dropTurn.offerSymbol)
    ∨ (∃ rest ready, s.env.schedule = .byteSink ready :: rest
        ∧ o = .next { s.dropTurn with env := { s.dropTurn.env with sinkReady := ready } })
    ∨ (∃ rest, s.env.schedule = .resetLine :: rest ∧ o = .next s.dropTurn.blockReset)
    ∨ (s.env.schedule ≠ [] ∧ o = .next s.dropTurn) := by
  unfold step at h
  cases hs : s.env.schedule with
  | nil => exact .inl ⟨rfl, by rw [hs] at h; exact h.symm⟩
  | cons t rest =>
    rw [hs] at h
    simp only at h
    have held : ∀ {p q r u v w x y : Prop}, o = .next s.dropTurn →
        p ∨ q ∨ r ∨ u ∨ v ∨ w ∨ x ∨ y ∨ (t :: rest ≠ [] ∧ o = .next s.dropTurn) := fun ho =>
      .inr (.inr (.inr (.inr (.inr (.inr (.inr (.inr ⟨List.cons_ne_nil _ _, ho⟩)))))))
    cases t with
    | rx =>
      cases hp : s.env.rxPort with
      | none =>
        simp only [fetch, hp, Option.map_none, ownTurn] at h
        exact held h.symm
      | some sym =>
        simp only [fetch, hp, Option.map_some] at h
        exact .inr (.inl ⟨rest, sym, rfl, rfl, h.symm⟩)
    | tx =>
      cases he : s.tx.engine with
      | idle =>
        cases hq : s.tx.cmdQueue with
        | nil =>
          simp only [fetch, he, hq, List.head?_nil, Option.map_none, ownTurn,
            State.dropTurn_tx] at h
          exact held h.symm
        | cons c cs =>
          simp only [fetch, he, hq, List.head?_cons, Option.map_some] at h
          exact .inr (.inr (.inl ⟨rest, c, cs, rfl, rfl, rfl, h.symm⟩))
      | busy j =>
        simp only [fetch, he, ownTurn, State.dropTurn_tx] at h
        exact .inr (.inr (.inr (.inl ⟨rest, j, rfl, rfl, h.symm⟩)))
    | host =>
      cases hp : s.env.hostProg with
      | nil =>
        simp only [fetch, hp, List.head?_nil, Option.map_none, ownTurn] at h
        exact held h.symm
      | cons op ops =>
        simp only [fetch, hp, List.head?_cons, Option.map_some] at h
        exact .inr (.inr (.inr (.inr (.inl ⟨rest, op, ops, rfl, rfl, h.symm⟩))))
    | bitSource =>
      simp only [fetch, ownTurn] at h
      exact .inr (.inr (.inr (.inr (.inr (.inl ⟨rest, rfl, h.symm⟩)))))
    | byteSink ready =>
      simp only [fetch, ownTurn] at h
      exact .inr (.inr (.inr (.inr (.inr (.inr (.inl ⟨rest, ready, rfl, h.symm⟩))))))
    | resetLine =>
      simp only [fetch, ownTurn] at h
      exact .inr (.inr (.inr (.inr (.inr (.inr (.inr (.inl ⟨rest, rfl, h.symm⟩)))))))

end Sys2Proof.Machine
end

