-- ==== Sys2Proof/Tests/Slice0.lean ====
section
/-!
SUPPORT. Tests of the model, with expected results from the spec: its encodings (30_encoding.md), its
vectors (95_test_vectors.md, named V-...), and its rules. Then a witness for the hypotheses of each
statement of Obligations.lean. Each test is one operation or one step on a small state.
-/
namespace Sys2Proof.Tests

open Sys2Proof Sys2Proof.Machine

/-! Small states -/

/-- What is seen of the next state, if there is one. -/
def after {α : Type} (o : Host.Outcome State Fault Refusal) (f : State → α) : Option α :=
  match o with
  | .next t => some (f t)
  | .fault _ => none
  | .refused _ => none

/-- Reset, with both engines on, both profile indices `idx`, and a ready sink. -/
def fresh (idx : BitVec 8) : State :=
  { State.reset with
    rx := { RxState.reset with rxProfile := idx }
    tx := { TxState.reset with txProfile := idx }
    ctl := { Control.reset with rxEn := true, txEn := true }
    env := { Env.quiet with sinkReady := true } }

/-- The bits of `bytes` as the cells of the bit buffer, from cell 0. -/
def cellsOf (bytes : List Byte) : BitBuf := (bytes.flatMap bitsOfByte).zipIdx.map Prod.swap

/-- `fresh idx`, synchronised on kind `k`, with the first `n` bits of `bytes` collected. -/
def synced (idx : BitVec 8) (k : FrameKind) (bytes : List Byte) (n : Nat) : State :=
  let s := fresh idx
  { s with rx := { s.rx with
      syncFound := true, currentFrameKind := k, bitIndex := BitVec.ofNat 20 n
      bitBuf := (cellsOf bytes).take n } }

/-- `synced`, one bit short of the whole of `bytes`. -/
def almost (idx : BitVec 8) (k : FrameKind) (bytes : List Byte) : State :=
  synced idx k bytes (8 * bytes.length - 1)

def withLast (k : FrameKind) (s : State) : State :=
  { s with rx := { s.rx with lastFrameKind := k } }

def withRelay (s : State) : State := { s with ctl := { s.ctl with relayEn := true } }

/-- `fresh idx`, with the TX engine running `cmd`. -/
def running (idx : BitVec 8) (cmd : Word) (out : List Byte) (need : Nat) (pay : List Byte) : State :=
  let s := fresh idx
  { s with tx := { s.tx with engine := .busy ⟨cmd, idx, out, need⟩, payQueue := pay } }

def onTurn (t : Turn) (s : State) : State :=
  { s with env := { s.env with schedule := [t] } }

def hostNext (op : HostOp) (s : State) : State :=
  { s with env := { s.env with hostProg := [op], schedule := [.host] } }

/-- The headers of the records appended by a step, and last_frame_kind after it. -/
def records (t : State) : List Word × FrameKind :=
  (t.rx.eventQueue.map Event.header, t.rx.lastFrameKind)

/-- The output list of the busy engine. -/
def outList (t : State) : Option (List Byte) :=
  match t.tx.engine with
  | .busy j => some j.outList
  | .idle => none

/-- The values the host has read. -/
def reads (t : State) : List Word := t.env.hostReads

/-! Well-formedness: each check refuses an ill-formed term (R88) -/

theorem test_wellformed_refuses_the_preamble_word : (Instr.illegalPreamble 0 0).wellFormed = false := by
  decide

theorem test_wellformed_refuses_the_end_marker_word :
    (Instr.illegalEndMarker 0 0).wellFormed = false := by
  decide

theorem test_wellformed_accepts_the_other_words :
    (Instr.illegalPreamble 0 1).wellFormed = true ∧ (Instr.illegalEndMarker 1 0).wellFormed = true
      ∧ Instr.preamble.wellFormed = true := by
  decide

/-! Decoding: words written out from the spec's encodings (R81, R86 to R91, R98, R33, R44) -/

theorem test_decode_rxsym :
    decodeTableWord 8 0b10110101 = some (.observeBit 0xB5)
    ∧ decodeTableWord 8 0 = some (.observeBit 0) := by
  decide

theorem test_decode_nop :
    decodeTableWord 32 0x0F123456 = some (.nop 0xF 0x123456)
    ∧ decodeTableWord 32 0 = some (.nop 0 0) := by
  decide

theorem test_decode_frame :
    decodeTableWord 32 0x11000007 = some (.frameVoice 7)
    ∧ decodeTableWord 32 0x12000007 = some (.frameText 7)
    ∧ decodeTableWord 32 0x13000007 = some (.frameVideo 7)
    ∧ decodeTableWord 32 0x14000007 = some (.frameData 7)
    ∧ decodeTableWord 32 0x15000007 = some (.frameCallsign 7)
    ∧ decodeTableWord 32 0x16000007 = some (.frameRepinfo 7) := by
  decide

theorem test_decode_bulk :
    decodeTableWord 32 0x21FFFFFF = some (.bulkVoice 0xFFFFFF)
    ∧ decodeTableWord 32 0x22FFFFFF = some (.bulkText 0xFFFFFF)
    ∧ decodeTableWord 32 0x23FFFFFF = some (.bulkVideo 0xFFFFFF)
    ∧ decodeTableWord 32 0x24FFFFFF = some (.bulkData 0xFFFFFF)
    ∧ decodeTableWord 32 0x25FFFFFF = some (.bulkCallsign 0xFFFFFF)
    ∧ decodeTableWord 32 0x26FFFFFF = some (.bulkRepinfo 0xFFFFFF) := by
  decide

theorem test_decode_preamble_and_end_marker :
    decodeTableWord 32 0x30000000 = some .preamble
    ∧ decodeTableWord 32 0x40000000 = some .endMarker
    ∧ decodeTableWord 32 0x30000001 = some (.illegalPreamble 0 1)
    ∧ decodeTableWord 32 0x31000000 = some (.illegalPreamble 1 0)
    ∧ decodeTableWord 32 0x41000000 = some (.illegalEndMarker 1 0) := by
  decide

theorem test_decode_illegal_frame :
    decodeTableWord 32 0x10000003 = some (.illegalFrameKind0 3)
    ∧ decodeTableWord 32 0x17000003 = some (.illegalFrameKind7 3)
    ∧ decodeTableWord 32 0x18000003 = some (.illegalFrameKind8 3)
    ∧ decodeTableWord 32 0x19000003 = some (.illegalFrameKind9 3)
    ∧ decodeTableWord 32 0x1A000003 = some (.illegalFrameKindA 3)
    ∧ decodeTableWord 32 0x1B000003 = some (.illegalFrameKindB 3)
    ∧ decodeTableWord 32 0x1C000003 = some (.illegalFrameKindC 3)
    ∧ decodeTableWord 32 0x1D000003 = some (.illegalFrameKindD 3)
    ∧ decodeTableWord 32 0x1E000003 = some (.illegalFrameKindE 3)
    ∧ decodeTableWord 32 0x1F000003 = some (.illegalFrameKindF 3) := by
  decide

theorem test_decode_illegal_bulk :
    decodeTableWord 32 0x20000002 = some (.illegalBulkKind0 2)
    ∧ decodeTableWord 32 0x27000002 = some (.illegalBulkKind7 2)
    ∧ decodeTableWord 32 0x28000002 = some (.illegalBulkKind8 2)
    ∧ decodeTableWord 32 0x29000002 = some (.illegalBulkKind9 2)
    ∧ decodeTableWord 32 0x2A000002 = some (.illegalBulkKindA 2)
    ∧ decodeTableWord 32 0x2B000002 = some (.illegalBulkKindB 2)
    ∧ decodeTableWord 32 0x2C000002 = some (.illegalBulkKindC 2)
    ∧ decodeTableWord 32 0x2D000002 = some (.illegalBulkKindD 2)
    ∧ decodeTableWord 32 0x2E000002 = some (.illegalBulkKindE 2)
    ∧ decodeTableWord 32 0x2F000002 = some (.illegalBulkKindF 2) := by
  decide

theorem test_decode_reserved_ops :
    decodeTableWord 32 0x5100000A = some (.illegalOp5 1 10)
    ∧ decodeTableWord 32 0x6100000A = some (.illegalOp6 1 10)
    ∧ decodeTableWord 32 0x7100000A = some (.illegalOp7 1 10)
    ∧ decodeTableWord 32 0x8100000A = some (.illegalOp8 1 10)
    ∧ decodeTableWord 32 0x9100000A = some (.illegalOp9 1 10)
    ∧ decodeTableWord 32 0xA100000A = some (.illegalOpA 1 10)
    ∧ decodeTableWord 32 0xB100000A = some (.illegalOpB 1 10)
    ∧ decodeTableWord 32 0xC100000A = some (.illegalOpC 1 10)
    ∧ decodeTableWord 32 0xD100000A = some (.illegalOpD 1 10)
    ∧ decodeTableWord 32 0xE100000A = some (.illegalOpE 1 10)
    ∧ decodeTableWord 32 0xF100000A = some (.illegalOpF 1 10) := by
  decide

theorem test_decode_reads :
    decodeTableWord 16 0x000 = some .rdCtrl
    ∧ decodeTableWord 16 0x001 = some .rdRxProfile
    ∧ decodeTableWord 16 0x002 = some .rdTxProfile
    ∧ decodeTableWord 16 0x003 = some .rdStatus
    ∧ decodeTableWord 16 0x004 = some .rdDiag
    ∧ decodeTableWord 16 0x005 = some .rdBitIndex
    ∧ decodeTableWord 16 0x006 = some .rdShiftReg
    ∧ decodeTableWord 16 0x007 = some .rdErrInfo
    ∧ decodeTableWord 16 0x008 = some .rdRxGeom
    ∧ decodeTableWord 16 0x009 = some .rdTxGeom := by
  decide

theorem test_decode_writes :
    decodeTableWord 48 0x000000070100 = some (.wrCtrl 7)
    ∧ decodeTableWord 48 0x000000070101 = some (.wrRxProfile 7)
    ∧ decodeTableWord 48 0x000000070102 = some (.wrTxProfile 7)
    ∧ decodeTableWord 48 0x000000070103 = some (.wrStatus 7)
    ∧ decodeTableWord 48 0x000000070104 = some (.wrDiag 7)
    ∧ decodeTableWord 48 0x000000070105 = some (.wrBitIndex 7)
    ∧ decodeTableWord 48 0x000000070106 = some (.wrShiftReg 7)
    ∧ decodeTableWord 48 0x000000070107 = some (.wrErrInfo 7)
    ∧ decodeTableWord 48 0x000000070108 = some (.wrRxGeom 7)
    ∧ decodeTableWord 48 0x000000070109 = some (.wrTxGeom 7) := by
  decide

theorem test_decode_reserved_reads :
    decodeTableWord 16 0x0B = some (.rdReserved0A0B 1)
    ∧ decodeTableWord 16 0x0F = some (.rdReserved0C0F 3)
    ∧ decodeTableWord 16 0x1F = some (.rdReserved101F 0xF)
    ∧ decodeTableWord 16 0x20 = some (.rdReserved203F 0)
    ∧ decodeTableWord 16 0x7F = some (.rdReserved407F 0x3F)
    ∧ decodeTableWord 16 0xFE = some (.rdReserved80FF 0x7E) := by
  decide

theorem test_decode_reserved_writes :
    decodeTableWord 48 (0x000000050000 + 0x100 + 0x0B) = some (.wrReserved0A0B 1 5)
    ∧ decodeTableWord 48 (0x000000050000 + 0x100 + 0x0F) = some (.wrReserved0C0F 3 5)
    ∧ decodeTableWord 48 (0x000000050000 + 0x100 + 0x1F) = some (.wrReserved101F 0xF 5)
    ∧ decodeTableWord 48 (0x000000050000 + 0x100 + 0x20) = some (.wrReserved203F 0 5)
    ∧ decodeTableWord 48 (0x000000050000 + 0x100 + 0x7F) = some (.wrReserved407F 0x3F 5)
    ∧ decodeTableWord 48 (0x000000050000 + 0x100 + 0xFE) = some (.wrReserved80FF 0x7E 5) := by
  decide

theorem test_decode_host_streams :
    decode (.host (.pushc 0x12000007)) = .pushc 0x12000007
    ∧ decode (.host (.pushb 0x41)) = .pushb 0x41
    ∧ decode (.host .pope) = .pope := by
  decide

/-- R80: no input format has another width, and an access word has 9 bits. -/
theorem test_decode_refuses_what_is_no_item :
    decodeBits 7 0 = .error (.noFormatOfThisWidth 7)
    ∧ decodeBits 16 0x200 = .error (.bitsAboveTheFormat 16 0x200)
    ∧ decodeTableWord 8 0x100 = none := by
  exact ⟨rfl, rfl, rfl⟩

/-! The RX engine -/

/-- V-R1: the 16th symbol of ED 89 on profile 1 matches Voice; STATUS is then 0x11. -/
theorem test_observe_bit_matches_voice :
    after (exec (.observeBit 0x01)
        { fresh 1 with rx := { (fresh 1).rx with shiftRegister := 0x0076C4, diagCounter := 15 } })
      (fun t => (t.rx.shiftRegister, t.rx.diagCounter, t.rx.bitIndex, statusValue t))
      = some (0x00ED89, 16, 0, 0x00000011) := by
  decide

/-- V-D2: the last symbol of a Text frame with relay enabled. -/
theorem test_observe_bit_completes_text :
    after (exec (.observeBit 0x00) (withRelay (almost 1 .text [0x48, 0x49, 0, 0, 0, 0])))
      (fun t => (records t, t.rx.shiftRegister, t.rx.syncFound))
      = some (([0x10000000, 0x20000002, 0xB2000002], .text), 0, false) := by
  decide

/-- V-D4, V-D6, V-D7, V-D9, V-D10, V-D12: the records of each kind of frame. -/
theorem test_dispatch_records :
    after (exec (.observeBit 0x00) (almost 1 .callsign [0x4B, 0x31, 0x41, 0x42, 0, 0])) records
      = some ([0x10000000, 0x30000004], .callsign)
    ∧ after (exec (.observeBit 0x00) (withRelay (almost 1 .repeaterInfo [1, 0, 2, 0, 0, 0]))) records
      = some ([0x10000000, 0x40000006], .repeaterInfo)
    ∧ after (exec (.observeBit 0x01) (withRelay (almost 1 .voice [0xAA, 1, 2, 3, 4, 5, 6, 7]))) records
      = some ([0x50000000, 0x60000007, 0xB1000007], .voice)
    ∧ after (exec (.observeBit 0x00) (withRelay (almost 1 .video [0xFF, 0xD8, 0, 0, 0, 0]))) records
      = some ([0x10000000, 0x70000006], .video)
    ∧ after (exec (.observeBit 0x00) (withRelay (almost 1 .data [0x45, 0, 0, 0x14, 0, 0]))) records
      = some ([0x80000006], .data)
    ∧ after (exec (.observeBit 0x00) (almost 1 .text [0x41, 0, 0x42, 0, 0, 0])) records
      = some ([0x10000000, 0x20000003], .text) := by
  decide

/-- V-D3, V-D13, V-D14: the records of an End frame, by last_frame_kind, which it leaves. -/
theorem test_dispatch_end :
    after (exec (.observeBit 0x01) (withLast .text (almost 1 .endOfTx [1, 1, 1, 1, 1, 1]))) records
      = some ([0x20000001, 0xA0000000], .text)
    ∧ after (exec (.observeBit 0x01) (withLast .video (almost 1 .endOfTx [1, 1, 1, 1, 1, 1]))) records
      = some ([0x90000000, 0xA0000000], .video)
    ∧ after (exec (.observeBit 0x01) (withLast .data (almost 1 .endOfTx [1, 1, 1, 1, 1, 1]))) records
      = some ([0xA0000000], .data) := by
  decide

/-- V-D8, V-D16: on profile 0 no byte of a Voice frame is dropped, and an End frame has 4 bytes. -/
theorem test_dispatch_on_the_8_bit_profile :
    after (exec (.observeBit 0x00) (withRelay (almost 0 .voice [9, 8, 7, 6])))
      (fun t => t.rx.eventQueue.map Event.bytes) = some [[], [9, 8, 7, 6], [9, 8, 7, 6]]
    ∧ after (exec (.observeBit 0x01) (withLast .voice (almost 0 .endOfTx [1, 1, 1, 1]))) records
      = some ([0x90000000, 0xA0000000], .voice) := by
  decide

/-- R142: targets of the default table. -/
theorem test_targets :
    target .voice ⟨4, .f8⟩ = 32 ∧ target .endOfTx ⟨4, .f8⟩ = 32 ∧ target .voice ⟨7, .std⟩ = 64
    ∧ target .text ⟨7, .std⟩ = 48 ∧ target .voice ⟨47, .std⟩ = 384 ∧ target .data ⟨1516, .high⟩ = 12120
    ∧ target .data ⟨3122, .high⟩ = 24968 := by
  decide

/-! The TX engine: what TX-START leaves to offer, and TX-TAKE's bytes -/

/-- V-T3, V-T5, V-T7, V-T8, V-T9, V-T11: the prefixes on profile 1. -/
theorem test_frame_prefixes :
    after (exec (.frameVoice 7) (fresh 1)) outList = some (some [0xED, 0x89, 0xAA])
    ∧ after (exec (.frameText 7) (fresh 1)) outList = some (some [0x89, 0xED, 0xAA])
    ∧ after (exec (.frameVideo 1) (fresh 1)) outList = some (some [0x98, 0xDE, 0xAA])
    ∧ after (exec (.frameData 0) (fresh 1)) outList = some (some [0xDE, 0x98, 0xAA])
    ∧ after (exec (.frameCallsign 2) (fresh 1)) outList = some (some [0x8C, 0xC8, 0xDD])
    ∧ after (exec (.frameRepinfo 2) (fresh 1)) outList = some (some [0xED, 0x77, 0xAA]) := by
  decide

/-- V-T4, V-T6, V-T10, V-T12: on profile 0 there is no start marker. -/
theorem test_frame_prefixes_on_the_8_bit_profile :
    after (exec (.frameVoice 4) (fresh 0)) outList = some (some [0xB5])
    ∧ after (exec (.frameText 2) (fresh 0)) outList = some (some [0x89, 0xED])
    ∧ after (exec (.frameVideo 2) (fresh 0)) outList = some (some [0x98, 0xDE])
    ∧ after (exec (.frameData 2) (fresh 0)) outList = some (some [0xDE, 0x98])
    ∧ after (exec (.frameCallsign 2) (fresh 0)) outList = some (some [0x8C, 0xC8, 0xDD])
    ∧ after (exec (.frameRepinfo 2) (fresh 0)) outList = some (some [0xED, 0x77]) := by
  decide

/-- V-T14, V-T15: BULK's bytes for the first byte of a chunk, and the padding after the last. -/
theorem test_bulk_takes :
    after (exec (.bulkText 2) (fresh 1)) outList = some (some [])
    ∧ after (ownTurn .tx (running 1 0x22000002 [] 2 [0x48, 0x49])) outList
      = some (some [0x89, 0xED, 0xAA, 0x48])
    ∧ after (ownTurn .tx (running 1 0x22000002 [] 1 [0x49])) outList
      = some (some [0x49, 0, 0, 0, 0, 0])
    ∧ after (ownTurn .tx (running 1 0x2400000E [] 7 [0x08])) outList
      = some (some [0xDE, 0x98, 0xAA, 0x08])
    ∧ after (ownTurn .tx (running 1 0x2400000E [] 1 [0x0E])) outList = some (some [0x0E]) := by
  decide

/-- V-T13: FRAME passes a payload byte on unchanged; V-T1: NOP discards it. -/
theorem test_frame_and_nop_takes :
    after (ownTurn .tx (running 1 0x14000009 [] 1 [0x09])) outList = some (some [0x09])
    ∧ after (ownTurn .tx (running 1 0x00000002 [] 1 [0x22])) outList = some (some []) := by
  decide

/-- V-T19, V-T20, V-T22, V-T23. -/
theorem test_preamble_and_end_marker :
    after (exec .preamble (fresh 1)) outList = some (some (List.replicate 14 0xED))
    ∧ after (exec .preamble (fresh 0)) outList = some (some (List.replicate 8 0xB5))
    ∧ after (exec .endMarker (fresh 1)) outList
      = some (some [0x4C, 0x8A, 0x2B, 0x01, 0x01, 0x01, 0x01, 0x01, 0x01, 0x01])
    ∧ after (exec .endMarker (fresh 0)) outList
      = some (some [0x4C, 0x8A, 0x2B, 0x01, 0x01, 0x01, 0x01]) := by
  decide

/-- V-T25: a command whose payload has not come holds. -/
theorem test_take_holds :
    after (ownTurn .tx (running 1 0x12000003 [] 1 [])) (fun t => (outList t, statusValue t))
      = some (some [], 0x00000002) := by
  decide

/-- V-E1 to V-E6: an illegal word raises CmdError with the word and offers nothing. -/
theorem test_illegal_commands :
    after (exec (.illegalBulkKind7 2) (fresh 1)) (fun t => (statusValue t, t.ctl.errInfo, outList t))
      = some (0x0000000A, 0x27000002, some [])
    ∧ after (exec (.illegalFrameKind0 3) (fresh 1)) (fun t => (t.ctl.cmdErr, t.ctl.errInfo))
      = some (true, 0x10000003)
    ∧ after (exec (.illegalPreamble 0 1) (fresh 1)) (fun t => (t.ctl.cmdErr, t.ctl.errInfo))
      = some (true, 0x30000001)
    ∧ after (exec (.illegalEndMarker 1 0) (fresh 1)) (fun t => (t.ctl.cmdErr, t.ctl.errInfo))
      = some (true, 0x41000000)
    ∧ after (exec (.illegalOp5 0 10) (fresh 1)) (fun t => (t.ctl.cmdErr, t.ctl.errInfo))
      = some (true, 0x5000000A)
    ∧ after (exec (.illegalOpF 0 0) (fresh 1)) (fun t => (t.ctl.cmdErr, t.ctl.errInfo))
      = some (true, 0xF0000000) := by
  decide

/-- V-E7: OP 0 with KIND 15 is a NOP. -/
theorem test_nop_raises_nothing :
    after (exec (.nop 0xF 0x123456) (fresh 1)) (fun t => (statusValue t, outList t))
      = some (0x00000002, some []) := by
  decide

/-! The host -/

/-- V-H1, V-H2: reads after reset. -/
theorem test_reads_after_reset :
    after (exec .rdCtrl State.reset) reads = some [0] ∧ after (exec .rdStatus State.reset) reads = some [0]
    ∧ after (exec .rdDiag State.reset) reads = some [0]
    ∧ after (exec .rdBitIndex State.reset) reads = some [0]
    ∧ after (exec .rdShiftReg State.reset) reads = some [0]
    ∧ after (exec .rdErrInfo State.reset) reads = some [0]
    ∧ after (exec .rdRxGeom State.reset) reads = some [0x00000004]
    ∧ after (exec .rdTxGeom State.reset) reads = some [0x00000004]
    ∧ after (exec (.rdReserved203F 0) State.reset) reads = some [0] := by
  decide

/-- V-H3, V-H4: the geometry of profiles 1 to 4. -/
theorem test_geometry :
    after (exec .rdRxGeom (fresh 1)) reads = some [0x00010007]
    ∧ after (exec .rdRxGeom (fresh 2)) reads = some [0x0001002F]
    ∧ after (exec .rdRxGeom (fresh 3)) reads = some [0x000205EC]
    ∧ after (exec .rdTxGeom (fresh 4)) reads = some [0x00020C32] := by
  decide

/-- V-H13. -/
theorem test_status_fields :
    after (exec .rdStatus (withLast .text (synced 1 .voice [] 0))) reads = some [0x00000211] := by
  decide

/-- V-H5: an illegal RX_PROFILE write leaves the partial frame. -/
theorem test_illegal_rx_profile_write :
    after (exec (.wrRxProfile 5) (synced 1 .text [0x48, 0x49] 16))
      (fun t => (statusValue t, t.ctl.errInfo, t.rx.rxProfile, t.rx.bitIndex))
      = some (0x00000025, 5, 1, 16) := by
  decide

/-- V-H7, V-H12: a legal RX_PROFILE write takes bits 7:0 and resets RX sync. -/
theorem test_legal_rx_profile_write :
    after (exec (.wrRxProfile 0x201) (withLast .text (synced 1 .text [0x48, 0x49] 16)))
      (fun t => (t.rx.rxProfile, statusValue t, t.rx.bitIndex, t.rx.diagCounter))
      = some (1, 0, 0, 0) := by
  decide

/-- V-H6's value on TX_PROFILE, and a legal write (R236). -/
theorem test_tx_profile_writes :
    after (exec (.wrTxProfile 0x105) State.reset)
      (fun t => (statusValue t, t.ctl.errInfo, t.tx.txProfile)) = some (0x00000004, 0x105, 0)
    ∧ after (exec (.wrTxProfile 4) State.reset) (fun t => t.tx.txProfile) = some 4 := by
  decide

/-- V-H8, V-H9: write 1 to clear. -/
theorem test_status_writes :
    after (exec (.wrStatus 0x4)
        { fresh 1 with ctl := { (fresh 1).ctl with cfgErr := true, cmdErr := true, errInfo := 9 } })
      (fun t => (t.ctl.cfgErr, t.ctl.cmdErr, t.ctl.errInfo)) = some (false, true, 9)
    ∧ after (exec (.wrStatus 0xFFFFFFFF)
        { synced 1 .voice [] 0 with ctl := { (fresh 1).ctl with cfgErr := true } }) statusValue
      = some 0x00000011 := by
  decide

/-- V-H10, V-A7: WR CTRL with bit 8 discards the partial frame. -/
theorem test_ctrl_writes :
    after (exec (.wrCtrl 0x1FF) State.reset) (fun t => ctrlValue t.ctl) = some 0x00000007
    ∧ after (exec (.wrCtrl 0x101) (withLast .text (synced 1 .text [0x48, 0x49] 16)))
      (fun t => (t.rx.bitIndex, statusValue t, t.rx.diagCounter, t.rx.eventQueue))
      = some (0, 0, 0, []) := by
  decide

/-- V-H11: writes to read-only and reserved registers do nothing. -/
theorem test_ignored_writes :
    after (exec (.wrDiag 0x12) (fresh 1)) (fun t => (t.rx, t.ctl)) = some ((fresh 1).rx, (fresh 1).ctl)
    ∧ after (exec (.wrReserved203F 0 5) (fresh 1)) (fun t => (t.rx, t.ctl))
      = some ((fresh 1).rx, (fresh 1).ctl) := by
  decide

/-- R239: the stream operations. -/
theorem test_stream_operations :
    after (exec (.pushc 0x12000007) State.reset) (fun t => t.tx.cmdQueue) = some [0x12000007]
    ∧ after (exec (.pushb 0x41) (running 1 0 [] 2 [0x40])) (fun t => t.tx.payQueue)
      = some [0x40, 0x41]
    ∧ after (exec .pope State.reset) (fun t => t.env.hostEvents) = some [] := by
  decide

/-- R280: the reset turn discards the queues and the running command; the sink keeps its bytes. -/
theorem test_reset_line :
    after (step (onTurn .resetLine (running 1 0x12000007 [0x48] 5 [0x49])))
      (fun t => (t.tx, t.ctl.txEn, t.env.sinkReady)) = some (TxState.reset, false, true) := by
  decide

/-- A word placed by withFetchWord is what the next step runs. -/
theorem test_fetch_word_runs :
    after (step (State.reset.withFetchWord 32 0x40000000)) outList
      = some (some [0x4C, 0x8A, 0x2B, 0x01, 0x01, 0x01, 0x01])
    ∧ after (step (State.reset.withFetchWord 8 0x01)) (fun t => t.rx.shiftRegister) = some 1
    ∧ after (step (State.reset.withFetchWord 16 0x108)) (fun t => t.env.hostProg) = some [] := by
  decide

/-! Witnesses: states and operands that meet the hypotheses of each statement, each clause at the
boundary of its range -/

/-- A build of one profile. -/
def oneProfile (p : Profile) (evt : Nat) : Build := ⟨[p], evt, 1, 1⟩

theorem test_witness_AcceptedBuilds :
    buildValid Config.defaultBuild = true ∧ buildValid (oneProfile ⟨1, .f8⟩ 3) = true
    ∧ buildValid (oneProfile ⟨65535, .std⟩ 3) = true ∧ buildValid (oneProfile ⟨2, .high⟩ 3) = true
    ∧ buildValid (oneProfile ⟨0, .f8⟩ 3) = false ∧ buildValid (oneProfile ⟨1, .std⟩ 3) = false
    ∧ buildValid (oneProfile ⟨65536, .high⟩ 3) = false ∧ buildValid (oneProfile ⟨1, .f8⟩ 2) = false
    ∧ buildValid ⟨[⟨1, .f8⟩, ⟨2, .f8⟩], 3, 1, 1⟩ = false ∧ buildValid ⟨[], 3, 1, 1⟩ = false
    ∧ buildValid ⟨[⟨1, .f8⟩], 3, 0, 1⟩ = false ∧ buildValid ⟨[⟨1, .f8⟩], 3, 1, 0⟩ = false := by
  decide

/-- R11: 256 entries are the most. -/
theorem test_witness_AcceptedBuilds_length :
    buildValid ⟨List.replicate 256 ⟨2, .std⟩, 3, 1, 1⟩ = true
    ∧ buildValid ⟨List.replicate 257 ⟨2, .std⟩, 3, 1, 1⟩ = false := by
  decide +kernel

theorem test_witness_ValidBuilds_two_entries :
    [(⟨2, .std⟩ : Profile), ⟨1, .f8⟩][1]? = some ⟨1, .f8⟩ ∧ (⟨1, .f8⟩ : Profile).family = .f8 := by
  decide

/-- The invariant of an idle TX engine, from its parts. -/
theorem inv_of_idle (s : State) (p : Profile)
    (hp : profileAt s.build s.rx.rxProfile = some p) (he : s.tx.engine = .idle)
    (h : buildValid s.build = true ∧ syncOk p s.rx ∧ s.rx.bitBuf.wf
      ∧ (∀ c ∈ s.rx.bitBuf, c.1 < capMax s.build) ∧ s.rx.lastFrameKind ≠ .endOfTx
      ∧ s.rx.eventQueue.length ≤ s.build.evtDepth
      ∧ (∀ e ∈ s.rx.eventQueue, eventOk (capMax s.build) e)
      ∧ legalIndex s.build s.tx.txProfile = true
      ∧ s.tx.cmdQueue.length ≤ s.build.cmdDepth ∧ s.tx.payQueue.length ≤ s.build.payDepth) :
    Inv s := by
  obtain ⟨h1, h2, h3, h4, h5, h6, h7, h8, h9, h10⟩ := h
  refine ⟨h1, ⟨?_, h3, h4, h5, h6, h7⟩, h8, h9, h10, ?_⟩
  · rw [hp]; exact h2
  · rw [he]; trivial

/-- The invariant of a running TX engine, from its job's part and the idle state's. -/
theorem inv_of_busy (s : State) (j : TxJob) (q : Profile)
    (hi : Inv { s with tx := { s.tx with engine := .idle } }) (he : s.tx.engine = .busy j)
    (hq : profileAt s.build j.latched = some q) (hn : j.need ≤ (lenOf j.cmd).toNat)
    (ho : j.outList.length ≤ max (2 * q.payloadBytes) (q.payloadBytes + 3)) : Inv s := by
  obtain ⟨h1, h2, h3, h4, h5, _⟩ := hi
  refine ⟨h1, h2, h3, h4, h5, ?_⟩
  rw [he]
  simp only [jobOk, hq]
  exact ⟨hn, ho⟩

theorem test_witness_EveryStepKeepsTheInvariant :
    Inv (onTurn .rx (synced 1 .voice [] 0)) ∧ Inv (onTurn .tx (running 1 0x12000007 [0x48] 5 [0x49]))
    ∧ (∃ t, step (onTurn .tx (running 1 0x12000007 [0x48] 5 [0x49])) = .next t) :=
  ⟨inv_of_idle _ ⟨7, .std⟩ rfl rfl (by decide),
    inv_of_busy _ _ ⟨7, .std⟩ (inv_of_idle _ ⟨7, .std⟩ rfl rfl (by decide)) rfl rfl (by decide)
      (by decide), _, rfl⟩

theorem test_witness_NoStepStops : Inv (onTurn .resetLine (fresh 4)) ∧ Inv (fresh 0) :=
  ⟨inv_of_idle _ ⟨3122, .high⟩ rfl rfl (by decide), inv_of_idle _ ⟨4, .f8⟩ rfl rfl (by decide)⟩

theorem test_witness_TargetLiesBetween :
    buildValid (oneProfile ⟨2, .std⟩ 3) = true ∧ ⟨2, .std⟩ ∈ (oneProfile ⟨2, .std⟩ 3).profiles
    ∧ buildValid (oneProfile ⟨1, .f8⟩ 3) = true ∧ ⟨1, .f8⟩ ∈ (oneProfile ⟨1, .f8⟩ 3).profiles
    ∧ buildValid (oneProfile ⟨65535, .high⟩ 3) = true
    ∧ ⟨65535, .high⟩ ∈ (oneProfile ⟨65535, .high⟩ 3).profiles := by
  decide

theorem test_witness_TargetIsTheRule :
    Family.std ≠ .f8 ∧ Family.high ≠ .f8 ∧ FrameKind.endOfTx ≠ .voice ∧ FrameKind.text ≠ .voice := by
  decide

theorem test_witness_DecodeOfEncode :
    (Instr.illegalPreamble 0 1).wellFormed = true ∧ (Instr.frameVoice 0xFFFFFF).wellFormed = true
    ∧ (Instr.wrReserved80FF 0x7F 1).wellFormed = true := by
  decide

/-- The fields of R104's clauses at their boundary values: OP, KIND, LEN. -/
theorem test_witness_CommandDecode :
    (opOf 0x0F000001, (kindOf 0x0F000001).toNat) = (0, 15)
    ∧ (opOf 0x11000000, (kindOf 0x11000000).toNat) = (1, 1)
    ∧ (opOf 0x16000000, (kindOf 0x16000000).toNat) = (1, 6)
    ∧ (opOf 0x21000000, (kindOf 0x21000000).toNat) = (2, 1)
    ∧ (opOf 0x26000000, (kindOf 0x26000000).toNat) = (2, 6)
    ∧ (opOf 0x30000000, kindOf 0x30000000, lenOf 0x30000000) = (3, 0, 0)
    ∧ (opOf 0x40000000, kindOf 0x40000000, lenOf 0x40000000) = (4, 0, 0)
    ∧ (opOf 0x10000000, (kindOf 0x10000000).toNat) = (1, 0)
    ∧ (opOf 0x27000000, (kindOf 0x27000000).toNat) = (2, 7)
    ∧ (opOf 0x30000001, lenOf 0x30000001) = (3, 1) ∧ (opOf 0x41000000, kindOf 0x41000000) = (4, 1)
    ∧ opOf 0x50000000 = 5 ∧ opOf 0xF0000000 = 0xF := by
  decide

/-- R104's clauses at the same words. -/
theorem test_command_decode_at_the_boundaries :
    [0x0F000001, 0x11000000, 0x16000000, 0x21000000, 0x26000000, 0x30000000, 0x40000000].map
      TxCmd.ofWord = [TxCmd.nop, .frame .voice, .frame .repinfo, .bulk .voice, .bulk .repinfo,
        .preamble, .endMarker]
    ∧ [0x10000000, 0x17000000, 0x20000000, 0x27000000, 0x30000001, 0x31000000, 0x41000000,
        0x50000000, 0xF0000000].all (fun c => TxCmd.ofWord c == .illegal) = true := by
  decide

theorem test_witness_AStepRunsTheDecodedItem :
    (let s := onTurn .rx { fresh 1 with env := { (fresh 1).env with rxPort := some 1 } };
      s.env.schedule = [.rx] ∧ s.env.rxPort = some 1)
    ∧ (let s := onTurn .tx { fresh 1 with tx := { (fresh 1).tx with cmdQueue := [0x30000000] } };
      s.env.schedule = [.tx] ∧ s.tx.engine = .idle ∧ s.tx.cmdQueue = [0x30000000])
    ∧ (let s := hostNext .pope (fresh 1);
      s.env.schedule = [.host] ∧ s.env.hostProg = [.pope]) := by
  decide

theorem test_witness_TurnsThatRunNoItem :
    (fresh 1).env.schedule = []
    ∧ ((onTurn .rx (fresh 1)).env.schedule = [.rx] ∧ (onTurn .rx (fresh 1)).env.rxPort = none)
    ∧ ((onTurn .tx (fresh 1)).tx.engine = .idle ∧ (onTurn .tx (fresh 1)).tx.cmdQueue = [])
    ∧ (onTurn .host (fresh 1)).env.hostProg = []
    ∧ (let s := onTurn .bitSource { fresh 1 with env := { (fresh 1).env with rxPort := some 1 } };
      s.env.schedule = [.bitSource] ∧ s.env.rxPort.isSome = true)
    ∧ (let s := onTurn .bitSource { fresh 1 with env := { (fresh 1).env with symbols := [1, 0] } };
      s.env.schedule = [.bitSource] ∧ s.env.rxPort = none ∧ s.env.symbols = [1, 0])
    ∧ (onTurn (.byteSink false) (fresh 1)).env.schedule = [.byteSink false]
    ∧ (onTurn .bitSource (fresh 1)).env.symbols = [] := by
  decide

theorem test_witness_TheResetLine :
    (onTurn .resetLine (running 1 0x12000007 [0x48] 5 [])).env.schedule = [.resetLine] := by
  decide

/-- `s` with `n` records in the event queue. -/
def withEvents (n : Nat) (s : State) : State :=
  { s with rx := { s.rx with eventQueue := List.replicate n (plainRecord .receiveEnded []) } }

/-- 13 records leave 3 of 16 slots, 14 leave 2. -/
theorem test_witness_ObserveBitHolds :
    State.reset.ctl.rxEn = false
    ∧ (withEvents 14 (fresh 1)).build.evtDepth < (withEvents 14 (fresh 1)).rx.eventQueue.length + 3
    ∧ ¬ (withEvents 13 (fresh 1)).build.evtDepth
        < (withEvents 13 (fresh 1)).rx.eventQueue.length + 3 := by
  decide

theorem test_witness_SymbolsThatAgree :
    (0x01 : Byte).getLsbD 0 = (0xFF : Byte).getLsbD 0
    ∧ (0x00 : Byte).getLsbD 0 = (0xFE : Byte).getLsbD 0 := by
  decide

theorem test_witness_SyncPatternsAreDisjoint :
    ⟨16, 0xED89, .voice⟩ ∈ matchList .std
    ∧ (⟨16, 0xED89, .voice⟩ : SyncPattern).hits 0x12ED89 = true
    ∧ ⟨24, 0x4C8A2B, .endOfTx⟩ ∈ matchList .high
    ∧ (⟨24, 0x4C8A2B, .endOfTx⟩ : SyncPattern).hits 0x4C8A2B = true := by
  decide

/-- The hypotheses shared by the statements about an accepted symbol. -/
def accepts (s : State) (p : Profile) (found : Bool) : Prop :=
  s.ctl.rxEn = true ∧ s.rx.eventQueue.length + 3 ≤ s.build.evtDepth
    ∧ profileAt s.build s.rx.rxProfile = some p ∧ s.rx.syncFound = found

/-- The last event slots, a register one bit short of a match, and one far from any. -/
theorem test_witness_UnsynchronisedStep :
    accepts (withEvents 13 (fresh 1)) ⟨7, .std⟩ false ∧ accepts (fresh 0) ⟨4, .f8⟩ false
    ∧ matchKind 0x00ED89 .std = .voice ∧ matchKind 0x000001 .std = .none := by
  unfold accepts; decide

/-- The first bit of a frame and the one before its last. -/
theorem test_witness_SynchronisedStep :
    (let s := synced 1 .text [] 0;
      accepts s ⟨7, .std⟩ true ∧ s.rx.bitIndex.toNat < capMax s.build
        ∧ s.rx.bitIndex.toNat + 1 < 2 ^ 20
        ∧ s.rx.bitIndex.toNat + 1 ≠ target s.rx.currentFrameKind ⟨7, .std⟩)
    ∧ (let s := synced 1 .text [1, 2, 3, 4, 5, 6] 46;
      accepts s ⟨7, .std⟩ true ∧ s.rx.bitIndex.toNat < capMax s.build
        ∧ s.rx.bitIndex.toNat + 1 < 2 ^ 20
        ∧ s.rx.bitIndex.toNat + 1 ≠ target s.rx.currentFrameKind ⟨7, .std⟩) := by
  unfold accepts; decide

theorem test_witness_CompletingStep :
    let s := almost 1 .text [1, 2, 3, 4, 5, 6];
    accepts s ⟨7, .std⟩ true ∧ s.rx.currentFrameKind ≠ .none
      ∧ s.rx.bitIndex.toNat < capMax s.build ∧ s.rx.bitIndex.toNat + 1 < 2 ^ 20
      ∧ s.rx.bitIndex.toNat + 1 = target s.rx.currentFrameKind ⟨7, .std⟩ := by
  unfold accepts; decide

theorem test_witness_PackingIsMsbFirst :
    (pack (cellsOf [0xCA, 0xFE]) 16)[0]? = some 0xCA ∧ (pack (cellsOf [0xCA, 0xFE]) 16)[1]? = some 0xFE := by
  decide

theorem test_witness_Trim :
    (trim [0x41, 0x00, 0x42, 0x00]).getLast? = some 0x42 ∧ trim [0x00, 0x00] = [] := by
  decide

theorem test_witness_OneSymbolAppends :
    (∃ t, exec (.observeBit 0x01) (fresh 1) = .next t ∧ (fresh 1).rx.syncFound = false)
    ∧ (∃ t, exec (.observeBit 0x01) (almost 0 .voice [1, 2, 3, 5]) = .next t
      ∧ t.rx.eventQueue.length = 2) :=
  ⟨⟨_, rfl, by decide⟩, ⟨_, rfl, by decide⟩⟩

/-- A step that finds sync, and one that appends records. -/
theorem test_witness_OnlyTheRxEngine :
    (let s := onTurn .rx { fresh 0 with
        rx := { (fresh 0).rx with shiftRegister := 0x5A }
        env := { (fresh 0).env with rxPort := some 1 } };
      s.rx.syncFound = false ∧ after (step s) (fun t => t.rx.syncFound) = some true)
    ∧ (let s := onTurn .rx { almost 0 .voice [1, 2, 3, 5] with
        env := { (fresh 0).env with rxPort := some 1 } };
      after (step s) (fun t => t.rx.eventQueue.length) = some 2) := by
  decide

theorem test_witness_AFrameIsCapturedWhole :
    Inv (withEvents 13 (synced 1 .text [] 0))
    ∧ accepts (withEvents 13 (synced 1 .text [] 0)) ⟨7, .std⟩ true
    ∧ (synced 1 .text [] 0).rx.bitIndex = 0
    ∧ 8 * [0x48, 0x49, 0, 0, 0, (0 : Byte)].length
      = target (synced 1 .text [] 0).rx.currentFrameKind ⟨7, .std⟩ :=
  ⟨inv_of_idle _ ⟨7, .std⟩ rfl rfl (by decide), by unfold accepts; decide, by decide, by decide⟩

/-- Voice on F8, Voice and Callsign on STD, Data on HIGH. -/
theorem test_witness_AFramedPayloadRoundTrips :
    (Inv (fresh 0) ∧ accepts (fresh 0) ⟨4, .f8⟩ false ∧ (fresh 0).rx.shiftRegister = 0
      ∧ [1, 2, 3, (4 : Byte)].length = (⟨4, .f8⟩ : Profile).payloadBytes)
    ∧ (Inv (fresh 1) ∧ accepts (fresh 1) ⟨7, .std⟩ false ∧ (fresh 1).rx.shiftRegister = 0
      ∧ [1, 2, 3, 4, 5, 6, (7 : Byte)].length = (⟨7, .std⟩ : Profile).payloadBytes
      ∧ [1, 2, 3, 4, 5, (6 : Byte)].length = (⟨7, .std⟩ : Profile).payloadBytes - 1)
    ∧ (Inv (fresh 3) ∧ accepts (fresh 3) ⟨1516, .high⟩ false ∧ (fresh 3).rx.shiftRegister = 0
      ∧ (List.replicate 1515 (0 : Byte)).length = (⟨1516, .high⟩ : Profile).payloadBytes - 1) := by
  unfold accepts
  exact ⟨⟨inv_of_idle _ ⟨4, .f8⟩ rfl rfl (by decide), by decide⟩,
    ⟨inv_of_idle _ ⟨7, .std⟩ rfl rfl (by decide), by decide⟩,
    inv_of_idle _ ⟨1516, .high⟩ rfl rfl (by decide), by decide, by decide, List.length_replicate⟩

/-- The hypotheses shared by the statements about the start of a command. -/
def starts (s : State) (p : Profile) : Prop :=
  s.tx.engine = .idle ∧ s.ctl.txEn = true ∧ profileAt s.build s.tx.txProfile = some p

/-- For FRAME, BULK, NOP, PREAMBLE, END_MARKER and the illegal words; the first and the last profile
of the table, and rows of each table of rows. -/
theorem test_witness_command_starts :
    starts (fresh 0) ⟨4, .f8⟩ ∧ starts (fresh 1) ⟨7, .std⟩ ∧ starts (fresh 4) ⟨3122, .high⟩ := by
  unfold starts; decide

theorem test_witness_command_rows :
    (Claims.frameRows.length, Claims.bulkRows.length, Claims.illegalKindRows.length,
      Claims.illegalOpRows.length) = (6, 6, 20, 13)
    ∧ (∃ row ∈ Claims.frameRows, row.1 7 = .frameText 7)
    ∧ (∃ row ∈ Claims.bulkRows, row.1 7 = .bulkRepinfo 7)
    ∧ (∃ row ∈ Claims.illegalKindRows, row.1 7 = .illegalBulkKindF 7)
    ∧ (∃ row ∈ Claims.illegalOpRows, row.1 1 7 = .illegalOpF 1 7) := by
  decide

theorem test_witness_NoCommandStartsWhileHeld :
    State.reset.ctl.txEn = false ∧ (running 1 0x12000007 [] 1 []).tx.engine ≠ .idle := by
  decide

theorem test_witness_TxOut :
    (let s := onTurn .tx (running 1 0x12000007 [0x89] 7 []);
      s.env.schedule = [.tx] ∧ s.tx.engine = .busy ⟨0x12000007, 1, [0x89], 7⟩
        ∧ s.env.sinkReady = true)
    ∧ (let s := onTurn .tx { running 1 0x12000007 [0x89] 7 [] with env := Env.quiet };
      s.env.schedule = [.tx] ∧ s.env.sinkReady = false) := by
  decide

/-- The last payload byte, and none there. -/
theorem test_witness_TxTake :
    (let s := onTurn .tx (running 1 0x12000007 [] 1 [0x48]);
      s.env.schedule = [.tx] ∧ s.tx.engine = .busy ⟨0x12000007, 1, [], 1⟩
        ∧ profileAt s.build 1 = some ⟨7, .std⟩ ∧ s.tx.payQueue = [0x48])
    ∧ (onTurn .tx (running 1 0x12000007 [] 1 [])).tx.payQueue = [] := by
  decide

theorem test_witness_TxEnd :
    (running 1 0x12000007 [] 0 []).tx.engine = .busy ⟨0x12000007, 1, [], 0⟩ := by
  decide

theorem test_witness_ARunningCommandKeepsItsProfile :
    ∃ t, step (onTurn .tx (running 1 0x12000007 [] 1 [0x48])) = .next t ∧
      t.tx.engine = .busy ⟨0x12000007, 1, [0x48], 0⟩ := ⟨_, rfl, by decide⟩

theorem test_witness_TxEnGatesOnlyTheStart :
    (running 1 0x12000007 [] 1 []).tx.engine = .busy ⟨0x12000007, 1, [], 1⟩
    ∧ State.reset.ctl.txEn = false := by
  decide

/-- BULK TEXT, 2 with one byte more in the queue, and an illegal word that needs none. -/
theorem test_witness_ACommandRunsToItsEnd :
    let s := { fresh 1 with tx := { (fresh 1).tx with payQueue := [0x48, 0x49, 0x50] } };
    buildValid s.build = true ∧ starts s ⟨7, .std⟩ ∧ s.env.sinkReady = true
      ∧ s.tx.payQueue = [0x48, 0x49] ++ [0x50]
      ∧ [0x48, (0x49 : Byte)].length = (lenOf 0x22000002).toNat
      ∧ ([] : List Byte).length = (lenOf 0x41000000).toNat := by
  unfold starts; decide

theorem test_witness_GeometryReads :
    buildValid (fresh 4).build = true
    ∧ profileAt (fresh 4).build (fresh 4).rx.rxProfile = some ⟨3122, .high⟩
    ∧ profileAt (fresh 4).build (fresh 4).tx.txProfile = some ⟨3122, .high⟩ := by
  decide

theorem test_witness_ReservedIndicesReadZero :
    0x0A ≤ (0x0A : BitVec 8).toNat ∧ 0x0A ≤ (0xFF : BitVec 8).toNat := by
  decide

theorem test_witness_NoReadChangesTheBlock :
    ∃ t, exec (decode (.host (.access (0#1 ++ 0x08#8) 0))) (fresh 1) = .next t := ⟨_, rfl⟩

theorem test_witness_WriteCtrl :
    (0x007 : Word).getLsbD 8 = false ∧ (0x107 : Word).getLsbD 8 = true := by
  decide

/-- Index 4 is the last legal one of five, index 5 the first illegal one. -/
theorem test_witness_profile_writes :
    (0xFFFFFF04 : Word).toNat % 256 < (fresh 1).build.profiles.length
    ∧ (fresh 1).build.profiles.length ≤ (0x00000005 : Word).toNat % 256
    ∧ (fresh 1).build.profiles.length ≤ (0x000000FF : Word).toNat % 256 := by
  decide

theorem test_witness_ReadOnlyAndReservedWrites :
    4 ≤ (0x04 : BitVec 8).toNat ∧ 4 ≤ (0xFF : BitVec 8).toNat := by
  decide

theorem test_witness_HostOperations :
    ∃ t, exec (decode (.host .pope)) (withEvents 1 (fresh 1)) = .next t
      ∧ t.env.hostEvents.length = 1 := ⟨_, rfl, by decide⟩

/-- Each queue with one place left, full, and the event queue with one record and none. -/
theorem test_witness_StreamOperations :
    (List.replicate 15 (0 : Word)).length < Config.defaultBuild.cmdDepth
    ∧ Config.defaultBuild.cmdDepth ≤ (List.replicate 16 (0 : Word)).length
    ∧ (List.replicate 63 (0 : Byte)).length < Config.defaultBuild.payDepth
    ∧ Config.defaultBuild.payDepth ≤ (List.replicate 64 (0 : Byte)).length
    ∧ (withEvents 1 (fresh 1)).rx.eventQueue = plainRecord .receiveEnded [] :: []
    ∧ (fresh 1).rx.eventQueue = [] := by
  decide

theorem test_witness_EventHeader :
    (plainRecord .receiveEnded []).bytes.length < 2 ^ 24
    ∧ (plainRecord .netData [1, 2]).bytes.length < 2 ^ 24 := by
  decide

/-- One step for each case of the statement: no change, reset, an illegal profile write, a STATUS
write, and TX-START of an illegal word. -/
theorem test_witness_ErrorFieldsChange :
    (∃ t, step (fresh 1) = .next t)
    ∧ after (step (onTurn .resetLine (fresh 1))) (fun t => t.ctl.errInfo) = some 0
    ∧ after (step (hostNext (.access 0x102 5) (fresh 1))) (fun t => (t.ctl.cfgErr, t.ctl.errInfo))
      = some (true, 5)
    ∧ after (step (hostNext (.access 0x103 0xC) (fresh 1))) (fun t => (t.ctl.cfgErr, t.ctl.cmdErr))
      = some (false, false)
    ∧ after (step (onTurn .tx { fresh 1 with
        tx := { (fresh 1).tx with cmdQueue := [0xF0000000] } }))
      (fun t => (t.ctl.cmdErr, t.ctl.errInfo)) = some (true, 0xF0000000) :=
  ⟨⟨_, rfl⟩, by decide⟩

end Sys2Proof.Tests
end

