-- ==== Sys2Proof/Proofs/Scope.lean ====
section
/-!
PROOFS. The block's scope: which builds are valid and what building one gives (R10, R11, R32, R265),
and the item a step runs (R7, R120, R190, R239).
-/
namespace Sys2Proof.Machine

open Sys2Proof

/-! Valid builds -/

/-- At most one element of a list satisfies `p` exactly when no two positions both hold one. -/
theorem length_filter_le_one_iff {α : Type} (p : α → Bool) (l : List α) :
    (l.filter p).length ≤ 1 ↔
      ∀ i j : Nat, ∀ a b : α, l[i]? = some a → l[j]? = some b → p a → p b → i = j := by
  have short : (l.filter p).length ≤ 1 ↔ (l.filter p).Pairwise (fun _ _ => False) := by
    rw [List.pairwise_iff_getElem]
    exact ⟨fun h i j _ hj hij => by omega,
      fun h => Nat.le_of_not_lt fun h2 => h 0 1 (by omega) h2 Nat.one_pos⟩
  rw [short, List.pairwise_filter, List.pairwise_iff_getElem]
  constructor
  · intro h i j a b ha hb pa pb
    obtain ⟨hi, rfl⟩ := List.getElem?_eq_some_iff.mp ha
    obtain ⟨hj, rfl⟩ := List.getElem?_eq_some_iff.mp hb
    rcases Nat.lt_trichotomy i j with hij | hij | hij
    · exact (h i j hi hj hij pa pb).elim
    · exact hij
    · exact (h j i hj hi hij pb pa).elim
  · intro h i j hi hj hij pa pb
    exact Nat.ne_of_lt hij
      (h i j _ _ (List.getElem?_eq_getElem hi) (List.getElem?_eq_getElem hj) pa pb)

/-- The checks `buildValid` makes, as propositions. -/
theorem buildValid_iff (b : Build) :
    buildValid b = true ↔
      (1 ≤ b.profiles.length ∧ b.profiles.length ≤ 256)
      ∧ (∀ p ∈ b.profiles, profileValid p = true)
      ∧ (b.profiles.filter (fun p => p.family = .f8)).length ≤ 1
      ∧ 3 ≤ b.evtDepth ∧ 1 ≤ b.cmdDepth ∧ 1 ≤ b.payDepth := by
  simp only [buildValid, Bool.and_eq_true, decide_eq_true_eq, List.all_eq_true, and_assoc]

/-- R11's bounds of one entry, family by family. -/
theorem profileValid_iff_bounds (p : Profile) :
    profileValid p = true ↔ p.payloadBytes ≤ 65535
      ∧ (p.family = .f8 → 1 ≤ p.payloadBytes)
      ∧ (p.family = .std ∨ p.family = .high → 2 ≤ p.payloadBytes) := by
  rw [profileValid_iff]
  cases p.family <;> simp [minPayload, plMax, and_comm]

/-! Building a block -/

theorem powerOn_of_valid {b : Build} (h : buildValid b = true) :
    powerOn b = .next (State.resetWith b) := if_pos h

theorem powerOn_of_invalid {b : Build} (h : buildValid b = false) :
    powerOn b = .refused .invalidBuild := if_neg (by simp [h])

/-- R48's reset values select entry 0, which every valid table has. -/
theorem profileAt_reset_of_buildValid {b : Build} (h : buildValid b = true) :
    ∃ p, profileAt b RxState.reset.rxProfile = some p := by
  obtain ⟨⟨hlen, _⟩, _⟩ := (buildValid_iff b).mp h
  exact ⟨_, List.getElem?_eq_getElem hlen⟩

/-- A block of a valid build meets the invariant right after reset. -/
theorem inv_resetWith {b : Build} (h : buildValid b = true) : Inv (State.resetWith b) := by
  have h0 := profileAt_reset_of_buildValid h
  have rx : rxOk b .reset := by
    obtain ⟨p, hp⟩ := h0
    refine ⟨?_, BitBuf.reset_wf, ?_⟩
    · rw [hp]
      simp [syncOk, RxState.reset]
    · simp [RxState.reset]
  have tx : txOk b .reset :=
    ⟨(legalIndex_iff b 0).mpr h0, Nat.zero_le _, Nat.zero_le _, trivial⟩
  exact ⟨h, rx, tx⟩

/-- Settles O2: a valid build answers its reset state, which meets the invariant. -/
theorem acceptedBuildsMeetTheInvariant : Obligations.AcceptedBuildsMeetTheInvariant :=
  fun b => ⟨fun h => ⟨State.resetWith b, powerOn_of_valid h, rfl, inv_resetWith h⟩,
    powerOn_of_invalid⟩

/-- Settles O3, check by check of `buildValid`. -/
theorem validBuildsAreThoseOfTheTableRules : Obligations.ValidBuildsAreThoseOfTheTableRules := by
  intro b
  refine ⟨powerOn_of_invalid, ?_⟩
  simp only [buildValid_iff, profileValid_iff_bounds, length_filter_le_one_iff,
    decide_eq_true_eq]

/-! The item a step runs -/

/-- A step whose turn has an item runs that item's instruction, with the turn spent (R68). -/
theorem step_of_fetch {s : State} {t : Turn} {rest : List Turn} {it : Item}
    (hs : s.env.schedule = t :: rest) (hf : fetch t s = some it) :
    step s = exec (decode it) { s with env := { s.env with schedule := rest } } := by
  simp [step, State.dropTurn, hs, hf]

theorem fetch_rx {s : State} {sym : Byte} (h : s.env.rxPort = some sym) :
    fetch .rx s = some (.rxsym sym) := by
  simp [fetch, h]

theorem fetch_tx {s : State} {c : Word} {cs : List Word} (he : s.tx.engine = .idle)
    (hq : s.tx.cmdQueue = c :: cs) : fetch .tx s = some (.cmd c) := by
  simp [fetch, he, hq]

theorem fetch_host {s : State} {op : HostOp} {ops : List HostOp}
    (h : s.env.hostProg = op :: ops) : fetch .host s = some (.host op) := by
  simp [fetch, h]

/-- Settles O15: each of the three agents fetches its item, and the step runs it. -/
theorem aStepRunsTheDecodedItem : Obligations.AStepRunsTheDecodedItem :=
  ⟨fun _ _ _ hs hp => step_of_fetch hs (fetch_rx hp),
    fun _ _ _ _ hs he hq => step_of_fetch hs (fetch_tx he hq),
    fun _ _ _ _ hs hp => step_of_fetch hs (fetch_host hp)⟩

end Sys2Proof.Machine
end

/-!
PROOFS. The block's state: what reset leaves (R48), what the reserved indices read (R44), and the
invariant, kept by the RX step, by each step of the TX engine and by the host's operations, and so by
every step.
-/
namespace Sys2Proof.Machine

open Sys2Proof

/-! Reset -/

/-- Settles O1: the fields of the reset constants, one by one. -/
theorem resetLeavesEveryBlockFieldAtItsValue :
    Obligations.ResetLeavesEveryBlockFieldAtItsValue := by
  intro b s
  and_intros <;> rfl

/-- Settles O4: the default build is valid. -/
theorem resetMeetsTheInvariant : Obligations.ResetMeetsTheInvariant :=
  inv_resetWith (b := Config.defaultBuild) (by decide)

/-! Reserved indices -/

/-- The registers above the ten of R33 read 0 (R44, R230). -/
theorem exec_readRow_reserved {r : HostReg} (h : 0x0A ≤ r.index.toNat) (s : State) :
    exec (readRow r) s = .next (s.hostReturn 0) := by
  cases r with
  | reserved0A0B | reserved0C0F | reserved101F | reserved203F | reserved407F | reserved80FF => rfl
  | _ => exact absurd h (by decide)

/-- Settles O49: an index of 0x0A or more selects one of the reserved registers. -/
theorem reservedIndicesReadZero : Obligations.ReservedIndicesReadZero := by
  intro idx data s h
  rw [← index_ofIndex idx] at h
  simp only [decode, decodeHost, decodeAccess_read]
  exact exec_readRow_reserved h s

/-! The target -/

/-- R147: under R11's bounds the target is at least one byte, at most the capacity, and small enough
for `bit_index` (R24). -/
theorem target_bounds {p : Profile} (h : profileValid p = true) (k : FrameKind) :
    8 ≤ target k p ∧ target k p ≤ bitBufferCapacity p ∧ bitBufferCapacity p < 2 ^ 20 := by
  obtain ⟨hmax, hf8, hother⟩ := (profileValid_iff_bounds p).mp h
  cases hf : p.family with
  | f8 =>
    have h1 := hf8 hf
    simp only [target, bitBufferCapacity, hf]
    omega
  | std =>
    have h2 := hother (.inl hf)
    simp only [target, bitBufferCapacity, hf]
    split <;> omega
  | high =>
    have h2 := hother (.inr hf)
    simp only [target, bitBufferCapacity, hf]
    split <;> omega

theorem one_le_payloadBytes {p : Profile} (h : profileValid p = true) : 1 ≤ p.payloadBytes := by
  obtain ⟨-, hf8, hother⟩ := (profileValid_iff_bounds p).mp h
  cases hf : p.family with
  | f8 => exact hf8 hf
  | std => exact Nat.le_of_succ_le (hother (.inl hf))
  | high => exact Nat.le_of_succ_le (hother (.inr hf))

/-- Below the target `bit_index` does not wrap (R24, R147). -/
theorem bitIndex_add_one_toNat {p : Profile} {k : FrameKind} {i : BitVec 20}
    (hp : profileValid p = true) (h : i.toNat < target k p) : (i + 1).toNat = i.toNat + 1 := by
  have := target_bounds hp k
  bv_omega

/-! The records of a frame -/

theorem trim_length_le (bytes : List Byte) : (trim bytes).length ≤ bytes.length := by
  simpa [trim] using (List.dropWhile_sublist (fun b => b == 0) (l := bytes.reverse)).length_le

theorem eventOk_plainRecord_nil {cap : Nat} {code : EventCode} (hc : code ≠ .relayRequest) :
    eventOk cap (plainRecord code []) := by
  simp [eventOk, plainRecord, hc]

theorem eventOk_plainRecord {cap : Nat} {code : EventCode} {bytes : List Byte}
    (hc : code ∉ .relayRequest :: noPayloadCodes) (hb : bytes.length ≤ cap / 8) :
    eventOk cap (plainRecord code bytes) := by
  obtain ⟨hr, hn⟩ := not_or.mp (List.mem_cons.not.mp hc)
  exact ⟨hb, fun h => absurd h hn, by simp [plainRecord, hr]⟩

theorem eventOk_of_mem_relayRecord {cap : Nat} {relayEn : Bool} {kind : FrameKind}
    {bytes : List Byte} (hk : kind ∈ [FrameKind.text, .callsign, .voice])
    (hb : bytes.length ≤ cap / 8) : ∀ e ∈ relayRecord relayEn kind bytes, eventOk cap e := by
  cases relayEn with
  | false => simp [relayRecord]
  | true =>
    rintro e he
    obtain rfl := List.mem_singleton.mp he
    exact ⟨hb, fun h => absurd h (by decide : EventCode.relayRequest ∉ noPayloadCodes), hk⟩

/-- R94, R177, R180: every record of R161's table is as `eventOk` asks, if the frame fits. -/
theorem eventOk_of_mem_recordTable {cap : Nat} {bytes : List Byte} (k last : FrameKind)
    (relayEn : Bool) (fam : Family) (hcap : 1 ≤ cap / 8) (hb : bytes.length ≤ cap / 8) :
    ∀ e ∈ recordTable k last relayEn fam bytes, eventOk cap e := by
  have ht : (trim bytes).length ≤ cap / 8 := (trim_length_le bytes).trans hb
  have ha : (if fam = .f8 then bytes else bytes.tail).length ≤ cap / 8 := by
    split
    · exact hb
    · exact (List.tail_sublist bytes).length_le.trans hb
  cases k with
  | none => simp [recordTable]
  | endOfTx =>
    simp only [recordTable, List.forall_mem_append, List.forall_mem_singleton]
    refine ⟨?_, eventOk_plainRecord_nil (by decide)⟩
    split
    · exact List.forall_mem_singleton.mpr (eventOk_plainRecord (by decide) hcap)
    · split
      · exact List.forall_mem_singleton.mpr (eventOk_plainRecord_nil (by decide))
      · simp
  | text | callsign =>
    simp only [recordTable, List.forall_mem_append, List.forall_mem_cons]
    exact ⟨⟨eventOk_plainRecord_nil (by decide), eventOk_plainRecord (by decide) ht, by simp⟩,
      eventOk_of_mem_relayRecord (by decide) ht⟩
  | voice =>
    simp only [recordTable, List.forall_mem_append, List.forall_mem_cons]
    exact ⟨⟨eventOk_plainRecord_nil (by decide), eventOk_plainRecord (by decide) ha, by simp⟩,
      eventOk_of_mem_relayRecord (by decide) ha⟩
  | repeaterInfo | video =>
    simp only [recordTable, List.forall_mem_cons]
    exact ⟨eventOk_plainRecord_nil (by decide), eventOk_plainRecord (by decide) hb, by simp⟩
  | data => exact List.forall_mem_singleton.mpr (eventOk_plainRecord (by decide) hb)

/-! The RX engine's part of the invariant -/

/-- `rxOk` of an engine whose profile is known. -/
theorem rxOk_iff {b : Build} {r : RxState} {p : Profile} (hp : profileAt b r.rxProfile = some p) :
    rxOk b r ↔ syncOk p r ∧ r.bitBuf.wf ∧ (∀ c ∈ r.bitBuf, c.1 < capMax b)
      ∧ r.lastFrameKind ≠ .endOfTx ∧ r.eventQueue.length ≤ b.evtDepth
      ∧ ∀ e ∈ r.eventQueue, eventOk (capMax b) e := by
  simp only [rxOk, hp]

theorem profileAt_of_rxOk {b : Build} {r : RxState} (hr : rxOk b r) :
    ∃ p, profileAt b r.rxProfile = some p := by
  cases hp : profileAt b r.rxProfile with
  | none => simp [rxOk, hp] at hr
  | some p => exact ⟨p, rfl⟩

theorem syncOk_iff_of_unsync {p : Profile} {r : RxState} (hs : r.syncFound = false) :
    syncOk p r ↔ r.currentFrameKind = .none ∧ r.bitIndex = 0 := by
  simp [syncOk, hs]

theorem syncOk_iff_of_sync {p : Profile} {r : RxState} (hs : r.syncFound = true) :
    syncOk p r ↔ r.currentFrameKind ∈ (matchList p.family).map SyncPattern.kind
      ∧ r.bitIndex.toNat < target r.currentFrameKind p
      ∧ ∀ i < r.bitIndex.toNat, r.bitBuf.holds i = true := by
  simp only [syncOk, hs, if_true]

/-- A kind that `Match` answers is one of the family's (R125). -/
theorem matchKind_mem {sr : BitVec 24} {fam : Family} (h : matchKind sr fam ≠ .none) :
    matchKind sr fam ∈ (matchList fam).map SyncPattern.kind := by
  unfold matchKind at h ⊢
  split at h
  · rename_i q hq
    exact List.mem_map_of_mem (List.mem_of_find?_eq_some hq)
  · exact absurd rfl h

/-- A cell inside the buffer keeps every cell inside it. -/
theorem write_lt_capMax {b : Build} {m : BitBuf} {i : Nat} {v : Bool} (hi : i < capMax b)
    (hm : ∀ c ∈ m, c.1 < capMax b) : ∀ c ∈ BitBuf.write m i v, c.1 < capMax b := by
  intro c hc
  rcases BitBuf.mem_write m i v c hc with rfl | hc
  · exact hi
  · exact hm c hc

/-- The compare agrees with the sync fields, whether or not it finds a kind (R23, R24, R126, R127). -/
theorem syncOk_detect {p : Profile} {r : RxState} (hp : profileValid p = true)
    (hr : syncOk p r) : syncOk p (r.detect p.family) := by
  rw [detect_eq]
  split
  · exact hr
  · rename_i hk
    obtain ⟨h8, -, -⟩ := target_bounds hp (matchKind r.shiftRegister p.family)
    exact Iff.mpr (syncOk_iff_of_sync rfl)
      ⟨matchKind_mem hk, Nat.lt_of_lt_of_le (Nat.zero_lt_succ 7) h8, by simp⟩

/-- A stored bit that does not reach the target keeps the sync fields in order (R24, R140). -/
theorem syncOk_store {p : Profile} {r : RxState} {v : Bool} (hp : profileValid p = true)
    (hs : r.syncFound = true) (hr : syncOk p r)
    (ht : (r.bitIndex + 1).toNat ≠ target r.currentFrameKind p) : syncOk p (r.store v) := by
  obtain ⟨hk, hlt, hheld⟩ := (syncOk_iff_of_sync hs).mp hr
  have hi := bitIndex_add_one_toNat hp hlt
  refine Iff.mpr (syncOk_iff_of_sync hs) ⟨hk, ?_, fun i h => ?_⟩
  · simp only [RxState.store_bitIndex, RxState.store_currentFrameKind]
    omega
  · simp only [RxState.store_bitIndex, hi] at h
    apply BitBuf.holds_write
    rcases Nat.lt_succ_iff_lt_or_eq.mp h with h | h
    · exact .inr (hheld i h)
    · exact .inl h

/-- The compare touches the sync fields alone. -/
theorem detect_frame (fam : Family) (r : RxState) :
    (r.detect fam).rxProfile = r.rxProfile ∧ (r.detect fam).bitBuf = r.bitBuf
    ∧ (r.detect fam).lastFrameKind = r.lastFrameKind
    ∧ (r.detect fam).eventQueue = r.eventQueue := by
  rw [detect_eq]
  split <;> exact ⟨rfl, rfl, rfl, rfl⟩

/-- The RX step keeps the RX engine's invariant, while three event slots are free (R120, R182). -/
theorem observe_keeps_rxOk {b : Build} {relayEn : Bool} {sym : Byte} {r r' : RxState}
    (hb : buildValid b = true) (hr : rxOk b r) (hroom : r.eventQueue.length + 3 ≤ b.evtDepth)
    (h : r.observe b relayEn sym = .ok r') : rxOk b r' := by
  obtain ⟨p, hp, hcase⟩ := observe_cases h
  obtain ⟨hsync, hwf, hcells, hlast, hlen, hev⟩ := (rxOk_iff hp).mp hr
  have hmem := profileAt_mem hp
  have hv := profileValid_of_build hb hmem
  rcases hcase with ⟨hs, rfl⟩ | ⟨hs, hc, ht, rfl⟩ | ⟨hs, hc, hk, ht, rfl⟩
  · obtain ⟨e1, e2, e3, e4⟩ := detect_frame p.family (r.takeBit (symbolBit sym))
    refine Iff.mpr (rxOk_iff (e1.symm ▸ hp)) ⟨syncOk_detect hv hsync, ?_⟩
    rw [e2, e3, e4]
    exact ⟨hwf, hcells, hlast, hlen, hev⟩
  · exact Iff.mpr (rxOk_iff hp) ⟨syncOk_store (r := r.takeBit _) hv hs hsync ht,
      BitBuf.write_wf _ _ _ hwf, write_lt_capMax hc hcells, hlast, hlen, hev⟩
  · obtain ⟨h8, htcap, -⟩ := target_bounds hv r.currentFrameKind
    have hcap := capacity_le_capMax hmem
    refine Iff.mpr (rxOk_iff hp) ⟨Iff.mpr (syncOk_iff_of_unsync rfl) ⟨rfl, rfl⟩,
      BitBuf.write_wf _ _ _ hwf, write_lt_capMax hc hcells, ?_, ?_, ?_⟩
    · simp only [RxState.syncReset_lastFrameKind]
      split
      · exact hlast
      · assumption
    · have h3 := recordTable_length_le r.currentFrameKind r.lastFrameKind relayEn p.family
        (pack (BitBuf.write r.bitBuf r.bitIndex.toNat (symbolBit sym))
          (target r.currentFrameKind p))
      simp only [RxState.syncReset_eventQueue, List.length_append]
      omega
    · refine List.forall_mem_append.mpr ⟨hev, eventOk_of_mem_recordTable _ _ _ _ ?_ ?_⟩
      · omega
      · simp only [pack, List.length_map, List.length_range]
        omega

/-- A host sync reset keeps the RX engine's invariant, at any profile of the table (R282). -/
theorem rxOk_hostSyncReset {b : Build} {r : RxState} {idx : BitVec 8} (hr : rxOk b r)
    (hi : legalIndex b idx = true) : rxOk b ({ r with rxProfile := idx }.hostSyncReset) := by
  obtain ⟨p, hp⟩ := (legalIndex_iff b idx).mp hi
  obtain ⟨-, hwf, hcells, -, hlen, hev⟩ := hr
  exact Iff.mpr (rxOk_iff hp)
    ⟨Iff.mpr (syncOk_iff_of_unsync rfl) ⟨rfl, rfl⟩, hwf, hcells, by simp, hlen, hev⟩

/-- Popping the head record keeps the RX engine's invariant (R239). -/
theorem rxOk_pop {b : Build} {r : RxState} {e : Event} {rest : List Event} (hr : rxOk b r)
    (hq : r.eventQueue = e :: rest) : rxOk b { r with eventQueue := rest } := by
  obtain ⟨hsync, hwf, hcells, hlast, hlen, hev⟩ := hr
  rw [hq] at hlen hev
  exact ⟨hsync, hwf, hcells, hlast, Nat.le_of_succ_le hlen,
    fun x hx => hev x (List.mem_cons_of_mem _ hx)⟩

/-! The TX engine's part of the invariant -/

/-- `jobOk` of a job whose latched profile is known. -/
theorem jobOk_iff {b : Build} {j : TxJob} {p : Profile} (hp : profileAt b j.latched = some p) :
    jobOk b j ↔ j.need ≤ (lenOf j.cmd).toNat
      ∧ j.outList.length ≤ max (2 * p.payloadBytes) (p.payloadBytes + 3) := by
  simp only [jobOk, hp]

theorem profileAt_of_jobOk {b : Build} {j : TxJob} (hj : jobOk b j) :
    ∃ p, profileAt b j.latched = some p := by
  cases hp : profileAt b j.latched with
  | none => simp [jobOk, hp] at hj
  | some p => exact ⟨p, rfl⟩

theorem txOk_busy_iff {b : Build} {t : TxState} {j : TxJob} (he : t.engine = .busy j) :
    txOk b t ↔ legalIndex b t.txProfile = true ∧ t.cmdQueue.length ≤ b.cmdDepth
      ∧ t.payQueue.length ≤ b.payDepth ∧ jobOk b j := by
  simp only [txOk, he]

theorem framePrefix_length_le (k : TxKind) (fam : Family) : (framePrefix k fam).length ≤ 3 := by
  cases k <;> cases fam <;> decide

/-- The head of a command is within R196's bound. -/
theorem cmdHead_length_le (d : TxCmd) (p : Profile) :
    (cmdHead d p).length ≤ max (2 * p.payloadBytes) (p.payloadBytes + 3) := by
  cases d with
  | nop | bulk | illegal => simp [cmdHead]
  | frame k =>
    have := framePrefix_length_le k p.family
    simp only [cmdHead]
    omega
  | preamble => simp [cmdHead]
  | endMarker =>
    simp only [cmdHead, endPattern, List.length_append, List.length_replicate, List.length_cons,
      List.length_nil]
    omega

/-- A command without payload has no tail (R198). -/
theorem cmdTail_zero (d : TxCmd) (p : Profile) : cmdTail d p 0 = [] := by
  cases d <;> simp [cmdTail]

theorem jobOk_startJob {b : Build} {idx : BitVec 8} {p : Profile} (d : TxCmd) (c : Word)
    (hp : profileAt b idx = some p) : jobOk b (startJob d c idx p) := by
  refine Iff.mpr (jobOk_iff hp) ⟨Nat.le_refl _, ?_⟩
  simpa [startJob, cmdTail_zero] using cmdHead_length_le d p

/-- The padding of the last BULK chunk (R197) is shorter than the chunk. -/
theorem cmdTail_length_le (d : TxCmd) (p : Profile) (len : Nat) :
    (cmdTail d p len).length ≤ p.payloadBytes - 1 := by
  cases d with
  | bulk k =>
    simp only [cmdTail]
    split
    · simp
    · simp only [List.length_replicate]
      omega
  | _ => simp [cmdTail]

/-- One payload byte gives at most the three bytes that may stand before it, and itself (R194, R197). -/
theorem cmdBody_length_le (d : TxCmd) (p : Profile) (j : Nat) (b : Byte) :
    (cmdBody d p j b).length ≤ 4 := by
  cases d with
  | bulk k =>
    have := framePrefix_length_le k p.family
    simp only [cmdBody, List.length_append, List.length_singleton]
    split
    · omega
    · simp
  | _ => simp [cmdBody]

/-- R196's bound of the output for one payload byte. -/
theorem takeOutput_length_le (d : TxCmd) {p : Profile} (hp : 1 ≤ p.payloadBytes)
    (len need : Nat) (b : Byte) :
    (takeOutput d p len need b).length ≤ max (2 * p.payloadBytes) (p.payloadBytes + 3) := by
  have hbody := cmdBody_length_le d p (len - need) b
  have htail := cmdTail_length_le d p len
  simp only [takeOutput, List.length_append]
  split
  · omega
  · simp only [List.length_nil]
    omega

/-! Each kind of step keeps the invariant -/

theorem execObserveBit_keeps_inv {sym : Byte} {s t : State} (hi : Inv s)
    (h : execObserveBit sym s = .next t) : Inv t := by
  obtain ⟨hb, hrx, htx⟩ := hi
  rcases execObserveBit_cases h with ⟨-, rfl⟩ | ⟨hr, r, ho, rfl⟩
  · exact ⟨hb, hrx, htx⟩
  · exact ⟨hb, observe_keeps_rxOk hb hrx ((rxReady_iff s).mp hr).2 ho, htx⟩

theorem startCommand_keeps_inv {d : TxCmd} {c : Word} {s t : State} (hi : Inv s)
    (h : startCommand d c s = .next t) : Inv t := by
  obtain ⟨hb, hrx, htx⟩ := hi
  rcases startCommand_cases h with ⟨-, rfl⟩ | ⟨-, p, hp, rfl⟩
  · exact ⟨hb, hrx, htx⟩
  · obtain ⟨hidx, hcmd, hpay, -⟩ := htx
    exact ⟨hb, hrx, hidx, (List.tail_sublist _).length_le.trans hcmd, hpay, jobOk_startJob d c hp⟩

theorem txContinue_keeps_inv {j : TxJob} {s t : State} (hi : Inv s)
    (he : s.tx.engine = .busy j) (h : s.txContinue j = .next t) : Inv t := by
  obtain ⟨hb, hrx, htx⟩ := hi
  obtain ⟨hidx, hcmd, hpay, hjob⟩ := (txOk_busy_iff he).mp htx
  rcases txContinue_cases h with rfl | ⟨b, rest, ho, -, rfl⟩ | ⟨-, -, rfl⟩
    | ⟨b, rest, p, -, -, hq, hp, rfl⟩
  · exact ⟨hb, hrx, htx⟩
  · obtain ⟨p, hp⟩ := profileAt_of_jobOk hjob
    obtain ⟨hneed, hout⟩ := (jobOk_iff hp).mp hjob
    rw [ho] at hout
    exact ⟨hb, hrx, hidx, hcmd, hpay, Iff.mpr (jobOk_iff hp) ⟨hneed, Nat.le_of_succ_le hout⟩⟩
  · exact ⟨hb, hrx, hidx, hcmd, hpay, trivial⟩
  · obtain ⟨hneed, -⟩ := (jobOk_iff hp).mp hjob
    have hpl := one_le_payloadBytes (profileValid_of_build hb (profileAt_mem hp))
    rw [hq] at hpay
    exact ⟨hb, hrx, hidx, hcmd, Nat.le_of_succ_le hpay, Iff.mpr (jobOk_iff hp)
      ⟨(Nat.sub_le _ _).trans hneed, takeOutput_length_le _ hpl _ _ b⟩⟩

theorem execWrCtrl_keeps_inv {v : Word} {s t : State} (hi : Inv s)
    (h : execWrCtrl v s = .next t) : Inv t := by
  obtain ⟨hb, hrx, htx⟩ := hi
  obtain rfl := Host.Outcome.next.inj h
  refine ⟨hb, ?_, htx⟩
  simp only [State.hostDone_build, State.hostDone_rx]
  split
  · exact rxOk_hostSyncReset hrx ((legalIndex_iff _ _).mpr (profileAt_of_rxOk hrx))
  · exact hrx

theorem execWrRxProfile_keeps_inv {v : Word} {s t : State} (hi : Inv s)
    (h : execWrRxProfile v s = .next t) : Inv t := by
  obtain ⟨hb, hrx, htx⟩ := hi
  unfold execWrRxProfile at h
  split at h
  · rename_i hidx
    obtain rfl := Host.Outcome.next.inj h
    exact ⟨hb, rxOk_hostSyncReset hrx hidx, htx⟩
  · obtain rfl := Host.Outcome.next.inj h
    exact ⟨hb, hrx, htx⟩

theorem execWrTxProfile_keeps_inv {v : Word} {s t : State} (hi : Inv s)
    (h : execWrTxProfile v s = .next t) : Inv t := by
  obtain ⟨hb, hrx, htx⟩ := hi
  unfold execWrTxProfile at h
  split at h
  · rename_i hidx
    obtain rfl := Host.Outcome.next.inj h
    obtain ⟨-, hrest⟩ := htx
    exact ⟨hb, hrx, hidx, hrest⟩
  · obtain rfl := Host.Outcome.next.inj h
    exact ⟨hb, hrx, htx⟩

theorem exec_host_keeps_inv {op : HostOp} {s t : State} (hi : Inv s)
    (h : exec (decodeHost op) s = .next t) : Inv t := by
  obtain ⟨hb, hrx, htx⟩ := hi
  have ⟨hidx, hcmd, hpay, heng⟩ := htx
  rcases exec_host_cases h with rfl | rfl | ⟨v, rfl⟩ | ⟨v, -, h⟩ | ⟨v, -, h⟩ | ⟨v, -, h⟩
    | ⟨v, -, h⟩ | ⟨c, -, hroom, rfl⟩ | ⟨b, -, hroom, rfl⟩ | ⟨e, rest, -, hq, rfl⟩
  · exact ⟨hb, hrx, htx⟩
  · exact ⟨hb, hrx, htx⟩
  · exact ⟨hb, hrx, htx⟩
  · exact execWrCtrl_keeps_inv ⟨hb, hrx, htx⟩ h
  · exact execWrRxProfile_keeps_inv ⟨hb, hrx, htx⟩ h
  · exact execWrTxProfile_keeps_inv ⟨hb, hrx, htx⟩ h
  · obtain rfl := Host.Outcome.next.inj h
    exact ⟨hb, hrx, htx⟩
  · refine ⟨hb, hrx, hidx, ?_, hpay, heng⟩
    simpa using hroom
  · refine ⟨hb, hrx, hidx, hcmd, ?_, heng⟩
    simpa using hroom
  · exact ⟨hb, rxOk_pop hrx hq, htx⟩

/-! Every command word's meaning is TX-START of that word -/

theorem exec_frameRow (kind : BitVec 4) (len : BitVec 24) (s : State) :
    exec (frameRow kind len) s
      = startCommand (TxCmd.ofFields 0x1 kind len) (commandWord 0x1 kind len) s := by
  obtain ⟨⟨k, hk⟩⟩ := kind
  interval_cases k <;> rfl

theorem exec_bulkRow (kind : BitVec 4) (len : BitVec 24) (s : State) :
    exec (bulkRow kind len) s
      = startCommand (TxCmd.ofFields 0x2 kind len) (commandWord 0x2 kind len) s := by
  obtain ⟨⟨k, hk⟩⟩ := kind
  interval_cases k <;> rfl

theorem exec_preambleRow (kind : BitVec 4) (len : BitVec 24) (s : State) :
    exec (commandRow 0x3 kind len) s
      = startCommand (TxCmd.ofFields 0x3 kind len) (commandWord 0x3 kind len) s := by
  by_cases h : kind = 0 ∧ len = 0
  · obtain ⟨rfl, rfl⟩ := h
    rfl
  · rw [show commandRow 0x3 kind len = .illegalPreamble kind len from if_neg h,
      show TxCmd.ofFields 0x3 kind len = .illegal from if_neg h]
    rfl

theorem exec_endMarkerRow (kind : BitVec 4) (len : BitVec 24) (s : State) :
    exec (commandRow 0x4 kind len) s
      = startCommand (TxCmd.ofFields 0x4 kind len) (commandWord 0x4 kind len) s := by
  by_cases h : kind = 0 ∧ len = 0
  · obtain ⟨rfl, rfl⟩ := h
    rfl
  · rw [show commandRow 0x4 kind len = .illegalEndMarker kind len from if_neg h,
      show TxCmd.ofFields 0x4 kind len = .illegal from if_neg h]
    rfl

theorem exec_commandRow (op kind : BitVec 4) (len : BitVec 24) (s : State) :
    exec (commandRow op kind len) s
      = startCommand (TxCmd.ofFields op kind len) (commandWord op kind len) s := by
  obtain ⟨⟨o, ho⟩⟩ := op
  interval_cases o
  · rfl
  · exact exec_frameRow kind len s
  · exact exec_bulkRow kind len s
  · exact exec_preambleRow kind len s
  · exact exec_endMarkerRow kind len s
  all_goals rfl

/-- The meaning of a command word's row is TX-START of what the word decodes to (R104, R190). -/
theorem exec_decodeCommand (c : Word) (s : State) :
    exec (decodeCommand c) s = startCommand (TxCmd.ofWord c) c s := by
  rw [decodeCommand, exec_commandRow, commandWord_fields, TxCmd.ofWord]

/-! Every step -/

/-- The bit source's turn leaves the block alone (R78). -/
theorem offerSymbol_keeps_inv {s : State} (hi : Inv s) : Inv s.offerSymbol := by
  unfold State.offerSymbol
  split <;> exact hi

/-- Settles O5, turn by turn. -/
theorem everyStepKeepsTheInvariant : Obligations.EveryStepKeepsTheInvariant := by
  intro s t hi h
  have hd : Inv s.dropTurn := hi
  rcases step_cases h with ⟨-, h⟩ | ⟨_, _, -, -, h⟩ | ⟨_, c, _, -, -, -, h⟩ | ⟨_, j, -, he, h⟩
    | ⟨_, _, _, -, -, h⟩ | ⟨_, -, h⟩ | ⟨_, _, -, h⟩ | ⟨_, -, h⟩ | ⟨-, h⟩
  · obtain rfl := Host.Outcome.next.inj h
    exact hi
  · exact execObserveBit_keeps_inv hd h.symm
  · exact startCommand_keeps_inv hd ((exec_decodeCommand c _).symm.trans h.symm)
  · exact txContinue_keeps_inv hd he h.symm
  · exact exec_host_keeps_inv hd h.symm
  · obtain rfl := Host.Outcome.next.inj h
    exact offerSymbol_keeps_inv hd
  · obtain rfl := Host.Outcome.next.inj h
    exact hi
  · obtain rfl := Host.Outcome.next.inj h
    obtain ⟨hb, -⟩ := hi
    exact inv_resetWith hb
  · obtain rfl := Host.Outcome.next.inj h
    exact hd

end Sys2Proof.Machine

/-!
PROOFS. Packing (R62): what each bit of a packed byte is.
-/
namespace Sys2Proof.Machine

open Sys2Proof

/-- A bit of an OR over a list is set where it was set before, or where some entry sets it. -/
theorem getLsbD_foldl_or {α : Type} {w : Nat} (f : α → BitVec w) (l : List α) (acc : BitVec w)
    (k : Nat) : (l.foldl (fun a x => a ||| f x) acc).getLsbD k
      = (acc.getLsbD k || l.any fun x => (f x).getLsbD k) := by
  induction l generalizing acc with
  | nil => simp
  | cons x xs ih => simp [ih, Bool.or_assoc]

/-- The cell collected `n`-th of its 8 is moved to bit `7 - n` and to no other. -/
theorem getLsbD_packedCell (b : Bool) {n i : Nat} (hn : n < 8) (hi : i < 8) :
    ((BitVec.ofBool b).setWidth 8 <<< (7 - n)).getLsbD (7 - i) = (decide (n = i) && b) := by
  rw [BitVec.getLsbD_shiftLeft, BitVec.getLsbD_setWidth, BitVec.getLsbD_ofBool]
  rcases Nat.lt_trichotomy n i with h | rfl | h
  · simp [show 7 - i < 7 - n by omega, h.ne]
  · simp [show 7 - n < 8 by omega]
  · simp [show 7 - i - (7 - n) ≠ 0 by omega, h.ne']

/-- R62, for one byte. -/
theorem getLsbD_packByte (m : BitBuf) (j : Nat) {i : Nat} (hi : i < 8) :
    (packByte m j).getLsbD (7 - i) = m.read (8 * j + i) := by
  rw [packByte, getLsbD_foldl_or, BitVec.ofNat_eq_ofNat, BitVec.getLsbD_zero, Bool.false_or,
    Bool.eq_iff_iff, List.any_eq_true]
  constructor
  · rintro ⟨n, hn, h⟩
    rw [getLsbD_packedCell _ (List.mem_range.mp hn) hi, Bool.and_eq_true, decide_eq_true_eq] at h
    obtain ⟨rfl, h⟩ := h
    exact h
  · intro h
    exact ⟨i, List.mem_range.mpr hi, (getLsbD_packedCell _ hi hi).trans (by simp [h])⟩

@[simp] theorem length_pack (m : BitBuf) (t : Nat) : (pack m t).length = t / 8 := by
  rw [pack, List.length_map, List.length_range]

theorem eq_packByte_of_getElem?_pack {m : BitBuf} {t j : Nat} {b : Byte}
    (h : (pack m t)[j]? = some b) : b = packByte m j := by
  obtain ⟨hj, rfl⟩ := List.getElem?_eq_some_iff.mp h
  simp only [pack, List.getElem_map, List.getElem_range]

/-- Settles O25: byte `j` of the frame is `packByte` of cells `8j` to `8j+7`, read off bit by bit. -/
theorem packingIsMsbFirst : Obligations.PackingIsMsbFirst := by
  intro m t
  refine ⟨length_pack m t, fun j i b hb hi => ?_⟩
  rw [eq_packByte_of_getElem?_pack hb, getLsbD_packByte m j hi]

end Sys2Proof.Machine

/-!
PROOFS. The encoding (30_encoding.md): decoding and encoding undo each other, every item is a row of
the opcode table, `decode(c)` clause by clause, the header of a record, and the RX symbol.
-/
namespace Sys2Proof

open Sys2Proof.Machine

/-! Decode of encode -/

/-- A command row's word decodes to the row of its three fields (R104). -/
theorem decode_cmd_commandWord (op kind : BitVec 4) (len : BitVec 24) :
    decode (.cmd (commandWord op kind len)) = commandRow op kind len :=
  decodeCommand_commandWord op kind len

/-- The check `wellFormed` makes of ILLEGAL.PREAMBLE and ILLEGAL.END_MARKER (R88, R90). -/
theorem not_both_zero_iff {kind : BitVec 4} {len : BitVec 24} :
    (!(kind == 0 && len == 0)) = true ↔ ¬(kind = 0 ∧ len = 0) := by
  simp only [Bool.not_eq_true', ← Bool.not_eq_true, Bool.and_eq_true, beq_iff_eq]

theorem commandRow_illegalPreamble {kind : BitVec 4} {len : BitVec 24}
    (h : (Instr.illegalPreamble kind len).wellFormed = true) :
    commandRow 0x3 kind len = .illegalPreamble kind len :=
  if_neg (not_both_zero_iff.mp h)

theorem commandRow_illegalEndMarker {kind : BitVec 4} {len : BitVec 24}
    (h : (Instr.illegalEndMarker kind len).wellFormed = true) :
    commandRow 0x4 kind len = .illegalEndMarker kind len :=
  if_neg (not_both_zero_iff.mp h)

/-- Settles O9, format by format: the symbol and the stream operations carry their operand as it is,
the accesses give back their register, and the command words their three fields. -/
theorem decodeOfEncodeIsTheInstruction : Obligations.DecodeOfEncodeIsTheInstruction := by
  intro i h
  cases i with
  | observeBit | pushc | pushb | pope => rfl
  | rdCtrl | rdRxProfile | rdTxProfile | rdStatus | rdDiag | rdBitIndex | rdShiftReg | rdErrInfo
  | rdRxGeom | rdTxGeom | rdReserved0A0B | rdReserved0C0F | rdReserved101F | rdReserved203F
  | rdReserved407F | rdReserved80FF => exact decode_encodeRead _
  | wrCtrl | wrRxProfile | wrTxProfile | wrStatus | wrDiag | wrBitIndex | wrShiftReg | wrErrInfo
  | wrRxGeom | wrTxGeom | wrReserved0A0B | wrReserved0C0F | wrReserved101F | wrReserved203F
  | wrReserved407F | wrReserved80FF => exact decode_encodeWrite _ _
  | illegalPreamble kind len =>
    exact (decode_cmd_commandWord 0x3 kind len).trans (commandRow_illegalPreamble h)
  | illegalEndMarker kind len =>
    exact (decode_cmd_commandWord 0x4 kind len).trans (commandRow_illegalEndMarker h)
  | _ => exact decode_cmd_commandWord _ _ _

/-! Encode of decode -/

/-- `i` stands for a row of the table, and its word has these three fields (R86 to R91). -/
def Instr.IsRowOf (i : Instr) (op kind : BitVec 4) (len : BitVec 24) : Prop :=
  i.wellFormed = true ∧ encode i = .cmd (commandWord op kind len)

theorem frameRow_isRowOf (kind : BitVec 4) (len : BitVec 24) :
    (frameRow kind len).IsRowOf 0x1 kind len := by
  obtain ⟨⟨k, hk⟩⟩ := kind
  interval_cases k <;> exact ⟨rfl, rfl⟩

theorem bulkRow_isRowOf (kind : BitVec 4) (len : BitVec 24) :
    (bulkRow kind len).IsRowOf 0x2 kind len := by
  obtain ⟨⟨k, hk⟩⟩ := kind
  interval_cases k <;> exact ⟨rfl, rfl⟩

/-- OP 3 and 4: one legal word, with KIND and LEN 0, and one row of all the others (R88, R90). -/
theorem isRowOf_ite {legal illegal : Instr} {op kind : BitVec 4} {len : BitVec 24}
    (hl : legal.IsRowOf op 0 0) (hi : ¬(kind = 0 ∧ len = 0) → illegal.IsRowOf op kind len) :
    (if kind = 0 ∧ len = 0 then legal else illegal).IsRowOf op kind len := by
  split
  · rename_i h
    obtain ⟨rfl, rfl⟩ := h
    exact hl
  · rename_i h
    exact hi h

/-- Every three fields have a row of the table (R87 to R91). -/
theorem commandRow_isRowOf (op kind : BitVec 4) (len : BitVec 24) :
    (commandRow op kind len).IsRowOf op kind len := by
  obtain ⟨⟨o, ho⟩⟩ := op
  interval_cases o
  · exact ⟨rfl, rfl⟩
  · exact frameRow_isRowOf kind len
  · exact bulkRow_isRowOf kind len
  · exact isRowOf_ite ⟨rfl, rfl⟩ fun h => ⟨not_both_zero_iff.mpr h, rfl⟩
  · exact isRowOf_ite ⟨rfl, rfl⟩ fun h => ⟨not_both_zero_iff.mpr h, rfl⟩
  all_goals exact ⟨rfl, rfl⟩

@[simp] theorem wellFormed_decodeCommand (c : Word) : (decodeCommand c).wellFormed = true := by
  obtain ⟨h, -⟩ := commandRow_isRowOf (opOf c) (kindOf c) (lenOf c)
  exact h

@[simp] theorem encode_decodeCommand (c : Word) : encode (decodeCommand c) = .cmd c := by
  obtain ⟨-, h⟩ := commandRow_isRowOf (opOf c) (kindOf c) (lenOf c)
  rwa [commandWord_fields] at h

/-- The data word of a read is no input, and encodes as 0 (R98, assumption 16). -/
theorem encode_decodeAccess (w : BitVec 9) (data : Word) :
    encode (decodeAccess w data) = .host (.access w (if w.getLsbD 8 then data else 0)) := by
  have hw := access_word_cases w
  unfold decodeAccess
  cases hb : w.getLsbD 8 with
  | false =>
    simp only [hb, Bool.false_eq_true, if_false] at hw ⊢
    rw [encode_readRow, encodeRead, index_ofIndex, ← hw]
  | true =>
    simp only [hb, if_true] at hw ⊢
    rw [encode_writeRow, encodeWrite, index_ofIndex, ← hw]

/-- Settles O10, port by port. -/
theorem encodeOfDecodeIsTheItem : Obligations.EncodeOfDecodeIsTheItem := by
  intro it
  cases it with
  | rxsym sym => rfl
  | cmd c => exact encode_decodeCommand c
  | host op =>
    cases op with
    | access w data => exact encode_decodeAccess w data
    | pushc | pushb | pope => rfl

/-! Every item is a row -/

@[simp] theorem wellFormed_readRow (r : HostReg) : (readRow r).wellFormed = true := by
  cases r <;> rfl

@[simp] theorem wellFormed_writeRow (v : Word) (r : HostReg) :
    (writeRow v r).wellFormed = true := by
  cases r <;> rfl

theorem wellFormed_decodeAccess (w : BitVec 9) (data : Word) :
    (decodeAccess w data).wellFormed = true := by
  unfold decodeAccess
  split
  · exact wellFormed_writeRow _ _
  · exact wellFormed_readRow _

/-- Settles O11, port by port. -/
theorem everyItemDecodesToAWellFormedInstruction :
    Obligations.EveryItemDecodesToAWellFormedInstruction := by
  intro it
  cases it with
  | rxsym sym => rfl
  | cmd c => exact wellFormed_decodeCommand c
  | host op =>
    cases op with
    | access w data => exact wellFormed_decodeAccess w data
    | pushc | pushb | pope => rfl

/-! `decode(c)` -/

/-- The KIND codes FRAME and BULK accept, in the order of the codes (R84, R88). -/
theorem TxKind.ofCode_of_legal {kind : BitVec 4} (h1 : 1 ≤ kind.toNat) (h6 : kind.toNat ≤ 6) :
    ∃ x, [TxKind.voice, .text, .video, .data, .callsign, .repinfo][kind.toNat - 1]? = some x
      ∧ TxKind.ofCode kind = some x := by
  unfold TxKind.ofCode
  generalize kind.toNat = k at *
  interval_cases k <;> exact ⟨_, rfl, rfl⟩

theorem TxKind.ofCode_of_illegal {kind : BitVec 4} (h : ¬(1 ≤ kind.toNat ∧ kind.toNat ≤ 6)) :
    TxKind.ofCode kind = none := by
  unfold TxKind.ofCode
  split
  case h_7 => rfl
  all_goals omega

section Fields

variable {op kind : BitVec 4} {len : BitVec 24}

theorem TxCmd.ofFields_op0 (h : op.toNat = 0) : TxCmd.ofFields op kind len = .nop := by
  simp only [TxCmd.ofFields, h]

theorem TxCmd.ofFields_op1 (h : op.toNat = 1) :
    TxCmd.ofFields op kind len = ((TxKind.ofCode kind).map TxCmd.frame).getD .illegal := by
  simp only [TxCmd.ofFields, h]

theorem TxCmd.ofFields_op2 (h : op.toNat = 2) :
    TxCmd.ofFields op kind len = ((TxKind.ofCode kind).map TxCmd.bulk).getD .illegal := by
  simp only [TxCmd.ofFields, h]

theorem TxCmd.ofFields_op3 (h : op.toNat = 3) :
    TxCmd.ofFields op kind len = if kind = 0 ∧ len = 0 then .preamble else .illegal := by
  simp only [TxCmd.ofFields, h]

theorem TxCmd.ofFields_op4 (h : op.toNat = 4) :
    TxCmd.ofFields op kind len = if kind = 0 ∧ len = 0 then .endMarker else .illegal := by
  simp only [TxCmd.ofFields, h]

theorem TxCmd.ofFields_of_op_ge (h : 5 ≤ op.toNat) : TxCmd.ofFields op kind len = .illegal := by
  unfold TxCmd.ofFields
  split
  case h_6 => rfl
  all_goals omega

end Fields

/-- Settles O12: by OP, and under OP 1 and 2 by whether KIND is one of the six legal codes. -/
theorem commandDecodeFollowsTheRule : Obligations.CommandDecodeFollowsTheRule := by
  intro c op k len kinds
  have hzero : kindOf c = 0 ∧ lenOf c = 0 ↔ k = 0 ∧ len = 0 := by
    simp only [← BitVec.toNat_inj]
    rfl
  refine ⟨TxCmd.ofFields_op0, fun h h1 h6 => ?_, fun h h1 h6 => ?_, fun h hk hl => ?_,
    fun h hk hl => ?_, fun h0 h12 h34 => ?_⟩
  · obtain ⟨x, hx, hc⟩ := TxKind.ofCode_of_legal (kind := kindOf c) h1 h6
    exact ⟨x, hx, (TxCmd.ofFields_op1 h).trans (by rw [hc]; rfl)⟩
  · obtain ⟨x, hx, hc⟩ := TxKind.ofCode_of_legal (kind := kindOf c) h1 h6
    exact ⟨x, hx, (TxCmd.ofFields_op2 h).trans (by rw [hc]; rfl)⟩
  · exact (TxCmd.ofFields_op3 h).trans (if_pos (hzero.mpr ⟨hk, hl⟩))
  · exact (TxCmd.ofFields_op4 h).trans (if_pos (hzero.mpr ⟨hk, hl⟩))
  · have hop : op = 1 ∨ op = 2 ∨ op = 3 ∨ op = 4 ∨ 5 ≤ op := by omega
    rcases hop with h | h | h | h | h
    · have hk : TxKind.ofCode (kindOf c) = none :=
        TxKind.ofCode_of_illegal fun hk => h12 ⟨.inl h, hk⟩
      exact (TxCmd.ofFields_op1 h).trans (by rw [hk]; rfl)
    · have hk : TxKind.ofCode (kindOf c) = none :=
        TxKind.ofCode_of_illegal fun hk => h12 ⟨.inr h, hk⟩
      exact (TxCmd.ofFields_op2 h).trans (by rw [hk]; rfl)
    · exact (TxCmd.ofFields_op3 h).trans (if_neg fun hz => h34 ⟨.inl h, hzero.mp hz⟩)
    · exact (TxCmd.ofFields_op4 h).trans (if_neg fun hz => h34 ⟨.inr h, hzero.mp hz⟩)
    · exact TxCmd.ofFields_of_op_ge h

/-! The header of a record -/

/-- A header has the fields of a command word: CODE, KIND and LEN stand where OP, KIND and LEN do
(R86, R92). -/
theorem header_eq_commandWord (e : Event) :
    e.header = commandWord e.code.code (kindCode e.kind) (BitVec.ofNat 24 e.bytes.length) := rfl

theorem lenOf_toNat (c : Word) : (lenOf c).toNat = c.toNat % 2 ^ 24 := by
  simp [lenOf]

theorem kindOf_toNat (c : Word) : (kindOf c).toNat = c.toNat / 2 ^ 24 % 16 := by
  simp [kindOf, Nat.shiftRight_eq_div_pow]

theorem opOf_toNat (c : Word) : (opOf c).toNat = c.toNat / 2 ^ 28 := by
  have := c.isLt
  simp only [opOf, BitVec.extractLsb'_toNat, Nat.shiftRight_eq_div_pow]
  omega

/-- The kinds in the order of their codes (R84). -/
theorem getElem?_kindCode (k : FrameKind) :
    [FrameKind.none, .voice, .text, .video, .data, .callsign, .repeaterInfo,
      .endOfTx][(kindCode k).toNat]? = some k := by
  cases k <;> rfl

/-- The event codes in their order, from 1 on (R93). -/
theorem getElem?_code (c : EventCode) :
    [EventCode.controlFrameReceived, .textReceived, .callsignReceived, .repeaterInfoReceived,
      .audioFrameReceived, .digitalAudio, .videoData, .netData, .endOfContinuousTransmission,
      .receiveEnded, .relayRequest][c.code.toNat - 1]? = some c := by
  cases c <;> rfl

theorem one_le_code (c : EventCode) : 1 ≤ c.code.toNat := by
  cases c <;> decide

/-- Settles O59: the three fields of the header read back, and each code names its value. -/
theorem eventHeaderCarriesCodeKindAndLength :
    Obligations.EventHeaderCarriesCodeKindAndLength := by
  intro e hlen
  rw [← lenOf_toNat, ← kindOf_toNat, ← opOf_toNat, header_eq_commandWord, lenOf_commandWord,
    kindOf_commandWord, opOf_commandWord]
  exact ⟨(BitVec.toNat_ofNat _ _).trans (Nat.mod_eq_of_lt hlen), getElem?_kindCode e.kind,
    getElem?_code e.code, one_le_code e.code⟩

/-! Sample words and the RX symbol -/

/-- Settles O14, word by word. -/
theorem sampleWordsDecodeAsTheTableSays : Obligations.SampleWordsDecodeAsTheTableSays := by
  and_intros <;> rfl

/-- The RX step looks at its symbol only through the received bit (R81, R121). -/
theorem execObserveBit_eq_of_symbolBit_eq {x y : Byte} (h : symbolBit x = symbolBit y)
    (s : State) : execObserveBit x s = execObserveBit y s := by
  simp only [execObserveBit, RxState.observe, h]

/-- Settles O19: the received bit of a symbol is its bit 0. -/
theorem symbolsThatAgreeInBitZeroBehaveIdentically :
    Obligations.SymbolsThatAgreeInBitZeroBehaveIdentically :=
  fun _ _ s => ⟨rfl, fun h => execObserveBit_eq_of_symbolBit_eq h s⟩

end Sys2Proof

/-!
PROOFS. The sync detector (40_rx_sync_detector.md): the sync word table and what one RX symbol does,
held, unsynchronised, inside a frame, and on a frame's last bit.
-/
namespace Sys2Proof.Machine

open Sys2Proof

/-! The sync word table -/

theorem maskOf_toNat {w : Nat} (hw : w ≤ 24) : (maskOf w).toNat = 2 ^ w - 1 := by
  have := Nat.pow_le_pow_right Nat.two_pos hw
  exact (BitVec.toNat_ofNat _ _).trans (Nat.mod_eq_of_lt (by omega))

/-- A pattern hits where the newest `width` bits of the register are the pattern (R125). -/
theorem hits_iff {q : SyncPattern} (hw : q.width ≤ 24) (sr : BitVec 24) :
    q.hits sr = true ↔ sr.toNat % 2 ^ q.width = q.pattern.toNat := by
  rw [SyncPattern.hits, beq_iff_eq, ← BitVec.toNat_inj, BitVec.toNat_and, maskOf_toNat hw,
    Nat.and_two_pow_sub_one_eq_mod]

/-- A pattern as wide as the register is compared with the whole of it. -/
theorem hits_iff_of_full_width {q : SyncPattern} (hw : q.width = 24) (sr : BitVec 24) :
    q.hits sr = true ↔ sr.toNat = q.pattern.toNat := by
  rw [hits_iff hw.le, hw, Nat.mod_eq_of_lt sr.isLt]

/-- `Match` on a list of entries, one entry at a time. -/
theorem elim_find?_hits_cons (sr : BitVec 24) (q : SyncPattern) (l : List SyncPattern) :
    ((q :: l).find? (·.hits sr)).elim FrameKind.none SyncPattern.kind =
      if q.hits sr then q.kind else (l.find? (·.hits sr)).elim .none SyncPattern.kind := by
  cases hq : q.hits sr <;> simp [hq]

theorem matchKind_eq_elim (sr : BitVec 24) (fam : Family) :
    matchKind sr fam = ((matchList fam).find? (·.hits sr)).elim .none SyncPattern.kind := by
  unfold matchKind
  cases (matchList fam).find? (·.hits sr) <;> rfl

/-- Settles O20: entry by entry in check order; those of 24 bits are compared with the whole
register, the two Voice patterns with their windows. -/
theorem matchFollowsTheSyncWordTable : Obligations.MatchFollowsTheSyncWordTable := by
  intro sr
  simp only [matchKind_eq_elim, matchList, elim_find?_hits_cons, List.find?_nil, Option.elim_none]
  simp only [hits_iff_of_full_width]
  simp [hits_iff]

/-- Two patterns that hit the same register value agree on the bits both compare. -/
theorem patterns_agree_of_hits {q r : SyncPattern} {sr : BitVec 24} (hq : q.hits sr = true)
    (hr : r.hits sr = true) : q.pattern &&& maskOf r.width = r.pattern &&& maskOf q.width := by
  rw [← beq_iff_eq.mp hq, ← beq_iff_eq.mp hr, BitVec.and_assoc, BitVec.and_assoc,
    BitVec.and_comm (maskOf q.width)]

/-- Different patterns of one family differ on the bits both compare. -/
theorem eq_of_patterns_agree (fam : Family) : ∀ q ∈ matchList fam, ∀ r ∈ matchList fam,
    q.pattern &&& maskOf r.width = r.pattern &&& maskOf q.width → q = r := by
  cases fam <;> decide

/-- Settles O21: two entries that hit agree on their common window, which no two patterns do. -/
theorem syncPatternsAreDisjoint : Obligations.SyncPatternsAreDisjoint :=
  fun fam _ q r hqm hrm hq hr =>
    eq_of_patterns_agree fam q hqm r hrm (patterns_agree_of_hits hq hr)

/-! Holding and accepting a symbol -/

/-- Settles O18: the RX engine is not ready, and so the step holds. -/
theorem observeBitHoldsWhenNotEnabled : Obligations.ObserveBitHoldsWhenNotEnabled := by
  intro sym s h
  have held : ¬ s.rxReady = true := by
    rw [rxReady_iff]
    rintro ⟨hen, hroom⟩
    rcases h with h | h
    · simp [hen] at h
    · omega
  exact if_neg held

/-- A ready RX engine takes the symbol from the port and does its step (R120). -/
theorem exec_observeBit_of_observe {sym : Byte} {s : State} {r : RxState}
    (hen : s.ctl.rxEn = true) (hroom : s.rx.eventQueue.length + 3 ≤ s.build.evtDepth)
    (ho : s.rx.observe s.build s.ctl.relayEn sym = .ok r) :
    exec (.observeBit sym) s = .next { s with rx := r, env := { s.env with rxPort := none } } := by
  change execObserveBit sym s = _
  simp only [execObserveBit, (rxReady_iff s).mpr ⟨hen, hroom⟩, if_true, ho]

theorem symbolBit_toNat (sym : Byte) : (symbolBit sym).toNat = sym.toNat % 2 := by
  revert sym; decide

/-- The register after an accepted symbol (R123). -/
theorem takeBit_symbolBit_shift_toNat (sym : Byte) (r : RxState) :
    (r.takeBit (symbolBit sym)).shiftRegister.toNat
      = (2 * r.shiftRegister.toNat + sym.toNat % 2) % 2 ^ 24 := by
  rw [takeBit_shift_toNat, symbolBit_toNat]

theorem takeBit_diagCounter_toNat_of_unsync {r : RxState} (hs : r.syncFound = false) (b : Bool) :
    (r.takeBit b).diagCounter.toNat = min (r.diagCounter.toNat + 1) 255 := by
  rw [RxState.takeBit_diagCounter, diagNext_toNat, hs, if_neg Bool.false_ne_true]

theorem takeBit_diagCounter_toNat_of_sync {r : RxState} (hs : r.syncFound = true) (b : Bool) :
    (r.takeBit b).diagCounter.toNat = r.diagCounter.toNat - 1 := by
  rw [RxState.takeBit_diagCounter, diagNext_toNat, if_pos hs]

/-! An unsynchronised detector -/

@[simp] theorem detect_diagCounter (fam : Family) (r : RxState) :
    (r.detect fam).diagCounter = r.diagCounter := by
  rw [detect_eq]
  split <;> rfl

@[simp] theorem detect_shiftRegister (fam : Family) (r : RxState) :
    (r.detect fam).shiftRegister = r.shiftRegister := by
  rw [detect_eq]
  split <;> rfl

/-- What the compare leaves in the sync fields, by the kind it finds (R126, R127). -/
theorem detect_syncFields (fam : Family) {r : RxState} (hs : r.syncFound = false) :
    if matchKind (r.detect fam).shiftRegister fam = .none then
      (r.detect fam).syncFound = false
        ∧ (r.detect fam).currentFrameKind = r.currentFrameKind
        ∧ (r.detect fam).bitIndex = r.bitIndex
    else (r.detect fam).syncFound = true ∧ (r.detect fam).bitIndex = 0
        ∧ (r.detect fam).currentFrameKind = matchKind (r.detect fam).shiftRegister fam := by
  rw [detect_shiftRegister, detect_eq]
  split
  · exact ⟨hs, rfl, rfl⟩
  · exact ⟨rfl, rfl, rfl⟩

/-- Settles O22: the bit is taken, and the register as shifted is compared. -/
theorem unsynchronisedStepShiftsCountsAndCompares :
    Obligations.UnsynchronisedStepShiftsCountsAndCompares := by
  intro sym s p hen hroom hp hs
  have hdiag := takeBit_diagCounter_toNat_of_unsync hs (symbolBit sym)
  have hshift := takeBit_symbolBit_shift_toNat sym s.rx
  rw [← detect_diagCounter p.family] at hdiag
  rw [← detect_shiftRegister p.family] at hshift
  obtain ⟨hprof, hbuf, hlast, hev⟩ := detect_frame p.family (s.rx.takeBit (symbolBit sym))
  exact ⟨_, exec_observeBit_of_observe hen hroom (observe_unsync hp hs), hdiag, hshift,
    detect_syncFields p.family hs, hprof, hbuf, hlast, hev, rfl, rfl, rfl, rfl⟩

/-! A synchronised assembler -/

/-- Settles O23: the bit is taken, then stored in the cell `bit_index` names. -/
theorem synchronisedStepStoresTheBit : Obligations.SynchronisedStepStoresTheBit := by
  intro sym s p hen hroom hp hs hcap hwrap htarget
  have hindex := BitVec.toNat_add_of_lt (y := 1) hwrap
  exact ⟨_, exec_observeBit_of_observe hen hroom
      (observe_store hp hs hcap fun h => htarget (hindex.symm.trans h)),
    takeBit_diagCounter_toNat_of_sync hs (symbolBit sym), takeBit_symbolBit_shift_toNat sym s.rx,
    hindex, BitBuf.read_write_same _ _ _, fun _ => BitBuf.read_write_other _ _ _ _, hs, rfl, rfl,
    rfl, rfl, rfl, rfl, rfl, rfl⟩

/-- Settles O24: the bit is taken and stored, and the full frame packed and dispatched. -/
theorem completingStepDispatchesTheFrame : Obligations.CompletingStepDispatchesTheFrame := by
  intro sym s p hen hroom hp hs hkind hcap hwrap htarget
  have hindex := BitVec.toNat_add_of_lt (y := 1) hwrap
  exact ⟨_, exec_observeBit_of_observe hen hroom
      (observe_complete hp hs hkind hcap (hindex.trans htarget)),
    BitBuf.read_write_same _ _ _, fun _ => BitBuf.read_write_other _ _ _ _, rfl, rfl, rfl, rfl,
    rfl, rfl, takeBit_diagCounter_toNat_of_sync hs (symbolBit sym), rfl, rfl, rfl, rfl, rfl⟩

end Sys2Proof.Machine

/-!
PROOFS. The assembler (41_rx_assembler.md): the target's rule and bounds (R141, R147), which
steps find sync or append records (R148), and a frame's bits collected, packed and dispatched (R140 to R146).
-/
namespace Sys2Proof.Machine

open Sys2Proof

/-! The target -/

theorem eight_dvd_target (k : FrameKind) (p : Profile) : 8 ∣ target k p := by
  have hpl := Nat.dvd_mul_left 8 p.payloadBytes
  unfold target
  cases p.family with
  | f8 => exact hpl
  | std | high =>
    dsimp only
    split
    · exact Nat.dvd_add hpl (Nat.dvd_refl 8)
    · exact Nat.dvd_sub hpl (Nat.dvd_refl 8)

/-- Settles O7: R11's bounds hold of every entry of a valid table, and bound its target. -/
theorem targetLiesBetweenOneByteAndCapacity : Obligations.TargetLiesBetweenOneByteAndCapacity := by
  intro b p k hb hp
  obtain ⟨h8, hcap, h20⟩ := target_bounds (profileValid_of_build hb hp) k
  exact ⟨h8, hcap, capacity_le_capMax hp, eight_dvd_target k p, Nat.lt_of_le_of_lt hcap h20⟩

/-- Settles O8: both families other than F8 share one rule. -/
theorem targetIsTheRuleOfTheSource : Obligations.TargetIsTheRuleOfTheSource := by
  intro k pl
  refine ⟨rfl, fun fam hf => ?_, fun fam hf hk => ?_⟩
  · cases fam with
    | f8 => exact absurd rfl hf
    | std | high => rfl
  · cases fam with
    | f8 => exact absurd rfl hf
    | std | high => exact if_neg hk

/-! Steps that find no sync and append no record -/

/-- `r'` follows `r` without a sync match and without a new record. -/
def RxState.QuietTo (r r' : RxState) : Prop :=
  (r'.syncFound = true → r.syncFound = true) ∧ r'.eventQueue.length ≤ r.eventQueue.length

theorem RxState.QuietTo.refl (r : RxState) : r.QuietTo r := ⟨id, Nat.le_refl _⟩

/-- A sync reset leaves the queue, even when it also selects a profile (R234, R282). -/
theorem RxState.quietTo_hostSyncReset (r : RxState) (idx : BitVec 8) :
    r.QuietTo { r with rxProfile := idx }.hostSyncReset :=
  ⟨fun h => absurd h Bool.false_ne_true, Nat.le_refl _⟩

/-- Reset empties the queue (R48, R280). -/
theorem RxState.quietTo_reset (r : RxState) : r.QuietTo .reset :=
  ⟨fun h => absurd h Bool.false_ne_true, Nat.zero_le _⟩

theorem execWrCtrl_quiet {v : Word} {s t : State} (h : execWrCtrl v s = .next t) :
    s.rx.QuietTo t.rx := by
  obtain rfl := Host.Outcome.next.inj h
  rw [State.hostDone_rx]
  dsimp only
  split
  · exact RxState.quietTo_hostSyncReset s.rx s.rx.rxProfile
  · exact .refl _

theorem execWrRxProfile_quiet {v : Word} {s t : State} (h : execWrRxProfile v s = .next t) :
    s.rx.QuietTo t.rx := by
  unfold execWrRxProfile at h
  split at h <;> obtain rfl := Host.Outcome.next.inj h
  · exact RxState.quietTo_hostSyncReset s.rx _
  · exact .refl _

theorem execWrTxProfile_rx {v : Word} {s t : State} (h : execWrTxProfile v s = .next t) :
    t.rx = s.rx := by
  unfold execWrTxProfile at h
  split at h <;> obtain rfl := Host.Outcome.next.inj h <;> rfl

/-- The host resets sync and pops records; it never matches or appends (R231 to R239). -/
theorem exec_host_quiet {op : HostOp} {s t : State} (h : exec (decodeHost op) s = .next t) :
    s.rx.QuietTo t.rx := by
  rcases exec_host_cases h with rfl | rfl | ⟨v, rfl⟩ | ⟨v, -, h⟩ | ⟨v, -, h⟩ | ⟨v, -, h⟩
    | ⟨v, -, h⟩ | ⟨c, -, -, rfl⟩ | ⟨b, -, -, rfl⟩ | ⟨e, rest, -, hq, rfl⟩
  · exact .refl _
  · exact .refl _
  · exact .refl _
  · exact execWrCtrl_quiet h
  · exact execWrRxProfile_quiet h
  · exact execWrTxProfile_rx h ▸ .refl _
  · obtain rfl := Host.Outcome.next.inj h
    exact .refl _
  · exact .refl _
  · exact .refl _
  · exact ⟨id, hq ▸ Nat.le_succ _⟩

theorem startCommand_rx {d : TxCmd} {c : Word} {s t : State} (h : startCommand d c s = .next t) :
    t.rx = s.rx := by
  rcases startCommand_cases h with ⟨-, rfl⟩ | ⟨-, p, -, rfl⟩ <;> rfl

theorem txContinue_rx {j : TxJob} {s t : State} (h : s.txContinue j = .next t) :
    t.rx = s.rx := by
  rcases txContinue_cases h with rfl | ⟨b, rest, -, -, rfl⟩ | ⟨-, -, rfl⟩
    | ⟨b, rest, p, -, -, -, -, rfl⟩ <;> rfl

theorem offerSymbol_rx (s : State) : s.offerSymbol.rx = s.rx := by
  unfold State.offerSymbol
  split <;> rfl

/-- A step is an RX turn on the offered symbol, or it finds no sync and appends no record. -/
theorem step_observes_or_quiet {s t : State} (h : step s = .next t) :
    (∃ rest sym, s.env.schedule = .rx :: rest ∧ execObserveBit sym s.dropTurn = .next t)
      ∨ s.rx.QuietTo t.rx := by
  rcases step_cases h with ⟨-, h⟩ | ⟨rest, sym, hs, -, h⟩ | ⟨_, c, _, -, -, -, h⟩
    | ⟨_, j, -, -, h⟩ | ⟨_, _, _, -, -, h⟩ | ⟨_, -, h⟩ | ⟨_, _, -, h⟩ | ⟨_, -, h⟩ | ⟨-, h⟩
  · obtain rfl := Host.Outcome.next.inj h
    exact .inr (.refl _)
  · exact .inl ⟨rest, sym, hs, h.symm⟩
  · have hrx := startCommand_rx ((exec_decodeCommand c _).symm.trans h.symm)
    exact .inr (hrx ▸ .refl _)
  · exact .inr (txContinue_rx h.symm ▸ .refl _)
  · exact .inr (exec_host_quiet (s := s.dropTurn) h.symm)
  · obtain rfl := Host.Outcome.next.inj h
    exact .inr (offerSymbol_rx s.dropTurn ▸ .refl _)
  · obtain rfl := Host.Outcome.next.inj h
    exact .inr (.refl _)
  · obtain rfl := Host.Outcome.next.inj h
    exact .inr (RxState.quietTo_reset _)
  · obtain rfl := Host.Outcome.next.inj h
    exact .inr (.refl _)

/-- An RX step of an unsynchronised detector appends no record (R148). -/
theorem execObserveBit_eventQueue_of_unsync {sym : Byte} {s t : State}
    (h : execObserveBit sym s = .next t) (hs : s.rx.syncFound = false) :
    t.rx.eventQueue = s.rx.eventQueue := by
  rcases execObserveBit_cases h with ⟨-, rfl⟩ | ⟨-, r, ho, rfl⟩
  · rfl
  · obtain ⟨p, hp, -⟩ := observe_cases ho
    obtain rfl := Except.ok.inj ((observe_unsync hp hs).symm.trans ho)
    obtain ⟨-, -, -, hq⟩ := detect_frame p.family (s.rx.takeBit (symbolBit sym))
    exact hq

/-- Settles O28: any step but an RX turn is quiet, and an unsynchronised one appends nothing. -/
theorem onlyTheRxEngineFindsSyncOrAppendsRecords :
    Obligations.OnlyTheRxEngineFindsSyncOrAppendsRecords := by
  intro s t h
  rcases step_observes_or_quiet h with ⟨rest, sym, hsched, ho⟩ | ⟨hsync, hlen⟩
  · refine ⟨fun _ _ => ⟨rest, hsched⟩, fun hgrow => ⟨?_, rest, hsched⟩⟩
    by_contra hs
    have hq := execObserveBit_eventQueue_of_unsync ho (Bool.eq_false_iff.mpr hs)
    exact absurd (congrArg List.length hq) (Nat.ne_of_gt hgrow)
  · refine ⟨fun hs ht => ?_, fun hgrow => absurd hlen (Nat.not_le_of_gt hgrow)⟩
    exact absurd ((hsync ht).symm.trans hs) (by decide)

/-! The collected bits and the bytes they pack to -/

/-- The first `n` collected bits, in order of collection (R140). -/
def BitBuf.firstBits (m : BitBuf) (n : Nat) : List Bool := (List.range n).map (BitBuf.read m)

@[simp] theorem BitBuf.length_firstBits (m : BitBuf) (n : Nat) :
    (BitBuf.firstBits m n).length = n := by
  rw [BitBuf.firstBits, List.length_map, List.length_range]

theorem BitBuf.firstBits_add (m : BitBuf) (n k : Nat) :
    BitBuf.firstBits m (n + k)
      = BitBuf.firstBits m n ++ (List.range k).map (fun i => BitBuf.read m (n + i)) := by
  simp [BitBuf.firstBits, List.range_add, Function.comp_def]

/-- Writing cell `n` collects one more bit. -/
theorem BitBuf.firstBits_write (m : BitBuf) (n : Nat) (b : Bool) :
    BitBuf.firstBits (BitBuf.write m n b) (n + 1) = BitBuf.firstBits m n ++ [b] := by
  have hkept : BitBuf.firstBits (BitBuf.write m n b) n = BitBuf.firstBits m n :=
    List.map_congr_left fun i hi => BitBuf.read_write_other m n i b (List.mem_range.mp hi).ne
  simp [BitBuf.firstBits_add, hkept]

theorem length_bitsOfByte (b : Byte) : (bitsOfByte b).length = 8 := by
  rw [bitsOfByte, List.length_map, List.length_range]

theorem length_flatMap_bitsOfByte (bytes : List Byte) :
    (bytes.flatMap bitsOfByte).length = 8 * bytes.length := by
  simp [List.length_flatMap, length_bitsOfByte, Nat.mul_comm]

/-- Eight cells that hold a byte's bits, bit 7 first, pack to that byte (R62, R144). -/
theorem packByte_eq_of_bits {m : BitBuf} {j : Nat} {b : Byte}
    (h : (List.range 8).map (fun i => BitBuf.read m (8 * j + i)) = bitsOfByte b) :
    packByte m j = b := by
  refine BitVec.eq_of_getLsbD_eq fun i hi => ?_
  have hbit := List.map_inj_left.mp h (7 - i) (List.mem_range.mpr (by omega))
  have hpacked := getLsbD_packByte m j (i := 7 - i) (by omega)
  rw [show 7 - (7 - i) = i by omega] at hbit hpacked
  exact hpacked.trans hbit

/-- Packing undoes the order in which a byte sequence's bits are collected (R62, R103, R144). -/
theorem pack_of_firstBits (m : BitBuf) (bytes : List Byte)
    (h : BitBuf.firstBits m (8 * bytes.length) = bytes.flatMap bitsOfByte) :
    pack m (8 * bytes.length) = bytes := by
  induction bytes using List.reverseRecOn with
  | nil => rfl
  | append_singleton bytes b ih =>
    rw [List.length_append, List.length_singleton, Nat.mul_add_one, BitBuf.firstBits_add,
      List.flatMap_append, List.flatMap_singleton] at h
    obtain ⟨hfirst, hlast⟩ := List.append_inj h
      (by rw [BitBuf.length_firstBits, length_flatMap_bitsOfByte])
    have hpack := ih hfirst
    rw [pack, Nat.mul_div_cancel_left _ (by decide)] at hpack ⊢
    rw [List.length_append, List.length_singleton, List.range_succ, List.map_append, hpack,
      List.map_singleton, packByte_eq_of_bits hlast]

/-! Inside a frame -/

@[simp] theorem symbolBit_symbolOf (b : Bool) : symbolBit (symbolOf b) = b := by
  cases b <;> rfl

/-- An RX engine that accepts symbols inside a frame, at profile `p` (R120, R124, R140). -/
structure InFrame (p : Profile) (s : State) : Prop where
  rxEn : s.ctl.rxEn = true
  room : s.rx.eventQueue.length + 3 ≤ s.build.evtDepth
  profile : profileAt s.build s.rx.rxProfile = some p
  valid : profileValid p = true
  synced : s.rx.syncFound = true
  kind : s.rx.currentFrameKind ≠ .none
  below : s.rx.bitIndex.toNat < target s.rx.currentFrameKind p

/-- No entry of a match list is for kind None (R85, R178). -/
theorem none_notMem_matchList (fam : Family) :
    FrameKind.none ∉ (matchList fam).map SyncPattern.kind := by
  cases fam <;> decide

theorem inFrame_of_inv {s : State} {p : Profile} (hi : Inv s) (hen : s.ctl.rxEn = true)
    (hroom : s.rx.eventQueue.length + 3 ≤ s.build.evtDepth)
    (hp : profileAt s.build s.rx.rxProfile = some p) (hs : s.rx.syncFound = true) :
    InFrame p s := by
  obtain ⟨hb, hrx, -⟩ := hi
  obtain ⟨hsync, -⟩ := (rxOk_iff hp).mp hrx
  obtain ⟨hk, hlt, -⟩ := (syncOk_iff_of_sync hs).mp hsync
  exact ⟨hen, hroom, hp, profileValid_of_build hb (profileAt_mem hp), hs,
    fun h => none_notMem_matchList p.family (h ▸ hk), hlt⟩

/-- `s` after it took and stored the bit `b` (R122, R123, R140). -/
def State.stored (b : Bool) (s : State) : State :=
  { s with rx := (s.rx.takeBit b).store b, env := { s.env with rxPort := none } }

@[simp] theorem State.stored_bitBuf (b : Bool) (s : State) :
    (s.stored b).rx.bitBuf = BitBuf.write s.rx.bitBuf s.rx.bitIndex.toNat b := rfl

@[simp] theorem State.stored_bitIndex (b : Bool) (s : State) :
    (s.stored b).rx.bitIndex = s.rx.bitIndex + 1 := rfl

@[simp] theorem State.stored_currentFrameKind (b : Bool) (s : State) :
    (s.stored b).rx.currentFrameKind = s.rx.currentFrameKind := rfl

/-- `t` is `s` after its frame was delivered as `bytes` (R145, R146, R161, R171). -/
def FrameDelivered (p : Profile) (bytes : List Byte) (s t : State) : Prop :=
  t.rx.eventQueue = s.rx.eventQueue
      ++ recordTable s.rx.currentFrameKind s.rx.lastFrameKind s.ctl.relayEn p.family bytes
    ∧ t.rx.syncFound = false ∧ t.rx.shiftRegister = 0
    ∧ t.rx.lastFrameKind =
        (if s.rx.currentFrameKind = .endOfTx then s.rx.lastFrameKind else s.rx.currentFrameKind)
    ∧ t.tx = s.tx ∧ t.ctl = s.ctl

namespace InFrame

variable {p : Profile} {s : State}

/-- The next cell is inside the buffer (R147). -/
theorem index_lt_capMax (h : InFrame p s) : s.rx.bitIndex.toNat < capMax s.build := by
  obtain ⟨-, hcap, -⟩ := target_bounds h.valid s.rx.currentFrameKind
  exact h.below.trans_le (hcap.trans (capacity_le_capMax (profileAt_mem h.profile)))

theorem index_add_one (h : InFrame p s) :
    (s.rx.bitIndex + 1).toNat = s.rx.bitIndex.toNat + 1 :=
  bitIndex_add_one_toNat h.valid h.below

/-- A bit before the last is stored (R140). -/
theorem exec_of_not_last (h : InFrame p s) (b : Bool)
    (ht : s.rx.bitIndex.toNat + 1 ≠ target s.rx.currentFrameKind p) :
    exec (.observeBit (symbolOf b)) s = .next (s.stored b) := by
  rw [← h.index_add_one] at ht
  have ho := observe_store (relayEn := s.ctl.relayEn) (sym := symbolOf b) h.profile h.synced
    h.index_lt_capMax ht
  rw [symbolBit_symbolOf] at ho
  exact exec_observeBit_of_observe h.rxEn h.room ho

/-- A bit before the last leaves the engine inside its frame (R140). -/
theorem stored (h : InFrame p s) (b : Bool)
    (ht : s.rx.bitIndex.toNat + 1 ≠ target s.rx.currentFrameKind p) : InFrame p (s.stored b) :=
  ⟨h.rxEn, h.room, h.profile, h.valid, h.synced, h.kind,
    h.index_add_one.trans_lt (Nat.lt_of_le_of_ne h.below ht)⟩

/-- The last bit completes the frame, packed with that bit in it (R143 to R146). -/
theorem exec_of_last (h : InFrame p s) (b : Bool)
    (ht : s.rx.bitIndex.toNat + 1 = target s.rx.currentFrameKind p) :
    ∃ t, exec (.observeBit (symbolOf b)) s = .next t
      ∧ FrameDelivered p (pack (BitBuf.write s.rx.bitBuf s.rx.bitIndex.toNat b)
          (target s.rx.currentFrameKind p)) s t := by
  rw [← h.index_add_one] at ht
  have ho := observe_complete (relayEn := s.ctl.relayEn) (sym := symbolOf b) h.profile h.synced
    h.kind h.index_lt_capMax ht
  rw [symbolBit_symbolOf] at ho
  exact ⟨_, exec_observeBit_of_observe h.rxEn h.room ho, rfl, rfl, rfl, rfl, rfl, rfl⟩

/-- Feeding the frame's remaining bits delivers what the buffer packs to once it holds the collected
bits and these. -/
theorem feed_rest (h : InFrame p s) (bits : List Bool)
    (hlen : s.rx.bitIndex.toNat + bits.length = target s.rx.currentFrameKind p) :
    ∃ t m, feed (bits.map symbolOf) s = .next t
      ∧ BitBuf.firstBits m (target s.rx.currentFrameKind p)
          = BitBuf.firstBits s.rx.bitBuf s.rx.bitIndex.toNat ++ bits
      ∧ FrameDelivered p (pack m (target s.rx.currentFrameKind p)) s t := by
  induction bits generalizing s with
  | nil => exact absurd hlen h.below.ne
  | cons b rest ih =>
    rw [List.length_cons] at hlen
    by_cases ht : s.rx.bitIndex.toNat + 1 = target s.rx.currentFrameKind p
    · obtain rfl := List.length_eq_zero_iff.mp (show rest.length = 0 by omega)
      obtain ⟨t, hexec, hdel⟩ := h.exec_of_last b ht
      refine ⟨t, _, ?_, ?_, hdel⟩
      · simp only [List.map_cons, feed, hexec, List.map_nil]
      · rw [← ht, BitBuf.firstBits_write]
    · have hrest : (s.stored b).rx.bitIndex.toNat + rest.length
          = target (s.stored b).rx.currentFrameKind p := by
        rw [State.stored_bitIndex, State.stored_currentFrameKind, h.index_add_one]
        omega
      obtain ⟨t, m, hfeed, hbits, hdel⟩ := ih (h.stored b ht) hrest
      rw [State.stored_bitIndex, h.index_add_one, State.stored_bitBuf, BitBuf.firstBits_write,
        List.append_assoc, List.singleton_append] at hbits
      refine ⟨t, m, ?_, hbits, hdel⟩
      simp only [List.map_cons, feed, h.exec_of_not_last b ht, hfeed]

end InFrame

/-- Settles O30: from `bit_index` 0 the buffer collects just the bytes' bits, and packs to them. -/
theorem aFrameIsCapturedWhole : Obligations.AFrameIsCapturedWhole := by
  intro s p bytes hi hen hroom hp hs hidx hlen
  have hzero : s.rx.bitIndex.toNat = 0 := by rw [hidx]; rfl
  obtain ⟨t, m, hfeed, hbits, hdel⟩ :=
    (inFrame_of_inv hi hen hroom hp hs).feed_rest (bytes.flatMap bitsOfByte)
      (by rw [hzero, length_flatMap_bitsOfByte, hlen, Nat.zero_add])
  rw [← hlen] at hbits hdel
  have hpack : pack m (8 * bytes.length) = bytes :=
    pack_of_firstBits m bytes (by rw [hbits, hzero]; rfl)
  rw [hpack] at hdel
  exact ⟨t, hfeed, hdel⟩

end Sys2Proof.Machine

/-!
PROOFS. The frame dispatcher (42_rx_dispatcher.md): what Trim removes (R166), and how many records
one symbol appends (R148, R182).
-/
namespace Sys2Proof.Machine

open Sys2Proof

/-! Trim -/

/-- Trim is the library's removal of a suffix, of the zero bytes. -/
theorem trim_eq_rdropWhile (bytes : List Byte) : trim bytes = bytes.rdropWhile (· == 0) := rfl

theorem exists_eq_trim_append_replicate (bytes : List Byte) :
    ∃ n, bytes = trim bytes ++ List.replicate n 0x00 := by
  have hzeros : ∀ b ∈ bytes.rtakeWhile (· == 0), b = 0 := fun _ hb =>
    beq_iff_eq.mp (List.mem_rtakeWhile_imp (p := (· == 0)) hb)
  refine ⟨(bytes.rtakeWhile (· == 0)).length, ?_⟩
  rw [trim_eq_rdropWhile, ← List.eq_replicate_of_mem hzeros, List.rdropWhile_append_rtakeWhile]

theorem ne_zero_of_getLast?_trim {bytes : List Byte} {b : Byte}
    (h : (trim bytes).getLast? = some b) : b ≠ 0x00 := by
  obtain ⟨hne, rfl⟩ := List.mem_getLast?_eq_getLast h
  exact fun h0 => List.rdropWhile_last_not _ bytes hne (beq_iff_eq.mpr h0)

/-- Settles O26: what Trim removes is a run of zeros, and it stops only at another byte. -/
theorem trimRemovesExactlyTheTrailingZeros : Obligations.TrimRemovesExactlyTheTrailingZeros :=
  fun bytes => ⟨exists_eq_trim_append_replicate bytes, fun _ => ne_zero_of_getLast?_trim⟩

/-! The records of one symbol -/

/-- An RX step keeps the queued records and appends at most 3, none without sync (R148, R182). -/
theorem observe_appends {b : Build} {relayEn : Bool} {sym : Byte} {r r' : RxState}
    (h : r.observe b relayEn sym = .ok r') :
    ∃ l, r'.eventQueue = r.eventQueue ++ l ∧ l.length ≤ 3 ∧ (r.syncFound = false → l = []) := by
  obtain ⟨p, -, ⟨-, rfl⟩ | ⟨-, -, -, rfl⟩ | ⟨hs, -, -, -, rfl⟩⟩ := observe_cases h
  · obtain ⟨-, -, -, hq⟩ := detect_frame p.family (r.takeBit (symbolBit sym))
    exact ⟨[], by rw [hq, List.append_nil]; rfl, Nat.zero_le _, fun _ => rfl⟩
  · exact ⟨[], (List.append_nil _).symm, Nat.zero_le _, fun _ => rfl⟩
  · exact ⟨_, rfl, recordTable_length_le _ _ _ _ _,
      fun hs' => absurd (hs.symm.trans hs') (by decide)⟩

/-- Settles O27: a held step appends nothing, and a ready engine has room for 3 records (R120). -/
theorem oneSymbolAppendsAtMostThreeRecords : Obligations.OneSymbolAppendsAtMostThreeRecords := by
  intro sym s t h
  rcases execObserveBit_cases h with ⟨-, rfl⟩ | ⟨hready, r, ho, rfl⟩
  · exact ⟨[], (List.append_nil _).symm, Nat.zero_le _, fun _ => rfl, fun hne => absurd rfl hne⟩
  · obtain ⟨-, hroom⟩ := (rxReady_iff s).mp hready
    obtain ⟨l, hq, h3, hsync⟩ := observe_appends ho
    refine ⟨l, hq, h3, hsync, fun _ => ?_⟩
    calc r.eventQueue.length = s.rx.eventQueue.length + l.length := by
          rw [hq, List.length_append]
      _ ≤ s.build.evtDepth := by omega

end Sys2Proof.Machine

/-!
PROOFS. The TX framer (43_tx_framer.md): TX-START row by row (R190 to R201), the engine's own steps
(R196, R202, R215), what TX_EN and a running command keep (R191, R210), a whole command and its
output in closed form (R192), and a frame's round trip through the receiver (R207).
-/
namespace Sys2Proof.Machine

open Sys2Proof

/-! TX-START -/

/-- Settles O13: the rows of the table, one OP after the other. -/
theorem commandMeaningsAgreeWithDecode : Obligations.CommandMeaningsAgreeWithDecode :=
  exec_decodeCommand

/-- R190, R210: an engine that may not start holds on every command word. -/
theorem exec_cmd_held {s : State} (h : s.ctl.txEn = false ∨ s.tx.engine ≠ .idle) (c : Word) :
    exec (decode (.cmd c)) s = .next s := by
  have held : s.txReady = false := by
    rw [← Bool.not_eq_true, txReady_iff]
    rintro ⟨hen, he⟩
    rcases h with h | h
    · exact Bool.false_ne_true (h.symm.trans hen)
    · exact h he
  exact (exec_decodeCommand c s).trans (startCommand_held held)

/-- Settles O39: the meaning of any command word is TX-START, which holds. -/
theorem noCommandStartsWhileHeld : Obligations.NoCommandStartsWhileHeld :=
  fun c _ h => exec_cmd_held h c

/-- A command word is its three fields in a row (R86). -/
theorem commandWord_eq_append (op kind : BitVec 4) (len : BitVec 24) :
    commandWord op kind len = op ++ kind ++ len := by
  unfold commandWord fieldAt
  apply BitVec.eq_of_getLsbD_eq
  intro i h
  simp only [BitVec.getLsbD_append, BitVec.getLsbD_or, BitVec.getLsbD_shiftLeft,
    BitVec.getLsbD_setWidth]
  by_cases h1 : i < 24
  · simp [h, h1, show i < 28 by omega]
  · have hlen := BitVec.getLsbD_of_ge len i (by omega)
    by_cases h2 : i < 28
    · simp [h, h1, h2, hlen, show i - 24 < 4 by omega, show i - 24 < 32 by omega]
    · have hkind := BitVec.getLsbD_of_ge kind (i - 24) (by omega)
      simp [h, h1, h2, hlen, hkind, show ¬ i - 24 < 4 by omega, show i - 28 < 32 by omega,
        Nat.sub_sub]

/-- A command word whose OP and KIND are given as one byte. -/
theorem commandWord_eq_append_byte (r : BitVec 8) (len : BitVec 24) :
    commandWord (r.extractLsb' 4 4) (r.extractLsb' 0 4) len = r ++ len := by
  have hr : r.extractLsb' 4 4 ++ r.extractLsb' 0 4 = r := by
    revert r; decide
  rw [commandWord_eq_append, hr]

/-- TX-START of an enabled engine, in the words of the statements (R190, R201). -/
theorem startCommand_eq_started {d : TxCmd} {c : Word} {s : State} {p : Profile}
    (he : s.tx.engine = .idle) (hen : s.ctl.txEn = true)
    (hp : profileAt s.build s.tx.txProfile = some p) :
    startCommand d c s = .next { Claims.started s c (lenOf c) (cmdHead d p) with
      ctl := if d = .illegal then { s.ctl with cmdErr := true, errInfo := c } else s.ctl } := by
  rw [startCommand_ready ((txReady_iff s).mpr ⟨hen, he⟩) hp]
  simp [Claims.started, startJob, cmdTail_zero, Control.raise]

/-- A legal command starts with its head on the output list, and raises nothing. -/
theorem exec_eq_started_of_legal {i : Instr} {d : TxCmd} {c : Word} {len : BitVec 24} {s : State}
    {p : Profile} (hi : exec i s = startCommand d c s) (hd : d ≠ .illegal) (hlen : lenOf c = len)
    (he : s.tx.engine = .idle) (hen : s.ctl.txEn = true)
    (hp : profileAt s.build s.tx.txProfile = some p) :
    exec i s = .next (Claims.started s c len (cmdHead d p)) := by
  rw [hi, startCommand_eq_started he hen hp, if_neg hd, hlen]
  rfl

/-- An illegal command starts with CmdError and an empty output list. -/
theorem exec_eq_started_of_illegal {i : Instr} {c : Word} {len : BitVec 24} {s : State}
    {p : Profile} (hi : exec i s = startCommand .illegal c s) (hlen : lenOf c = len)
    (he : s.tx.engine = .idle) (hen : s.ctl.txEn = true)
    (hp : profileAt s.build s.tx.txProfile = some p) :
    exec i s = .next { Claims.started s c len [] with
      ctl := { s.ctl with cmdErr := true, errInfo := c } } := by
  rw [hi, startCommand_eq_started he hen hp, if_pos rfl, hlen]
  rfl

theorem lenOf_append (r : BitVec 8) (len : BitVec 24) : lenOf (r ++ len) = len := by
  rw [← commandWord_eq_append_byte, lenOf_commandWord]

/-- A FRAME row starts the FRAME command of its kind, whose Prefix the row states (R88, R95). -/
theorem exec_frameRows : ∀ row ∈ Claims.frameRows, ∃ k : TxKind,
    (∀ len s, exec (row.1 len) s = startCommand (.frame k) (row.2.1 ++ len) s)
    ∧ ∀ fam, framePrefix k fam = if fam = .f8 then row.2.2.1 else row.2.2.2 := by
  simp only [Claims.frameRows, List.forall_mem_cons, List.not_mem_nil, IsEmpty.forall_iff,
    implies_true, and_true, ← commandWord_eq_append_byte]
  refine ⟨⟨.voice, fun _ _ => rfl, ?_⟩, ⟨.text, fun _ _ => rfl, ?_⟩, ⟨.video, fun _ _ => rfl, ?_⟩,
    ⟨.data, fun _ _ => rfl, ?_⟩, ⟨.callsign, fun _ _ => rfl, ?_⟩, ⟨.repinfo, fun _ _ => rfl, ?_⟩⟩
  all_goals
    intro fam
    cases fam <;> rfl

/-- Settles O32: the head of FRAME is its Prefix (R194). -/
theorem frameStartsWithItsPrefix : Obligations.FrameStartsWithItsPrefix := by
  intro row hrow len s p he hen hp
  obtain ⟨k, hexec, hprefix⟩ := exec_frameRows row hrow
  rw [← hprefix]
  exact exec_eq_started_of_legal (hexec len s) (by simp) (lenOf_append _ _) he hen hp

/-- A BULK row starts the BULK command of some kind (R88). -/
theorem exec_bulkRows : ∀ row ∈ Claims.bulkRows, ∃ k : TxKind,
    ∀ len s, exec (row.1 len) s = startCommand (.bulk k) (row.2 ++ len) s := by
  simp only [Claims.bulkRows, List.forall_mem_cons, List.not_mem_nil, IsEmpty.forall_iff,
    implies_true, and_true, ← commandWord_eq_append_byte]
  exact ⟨⟨.voice, fun _ _ => rfl⟩, ⟨.text, fun _ _ => rfl⟩, ⟨.video, fun _ _ => rfl⟩,
    ⟨.data, fun _ _ => rfl⟩, ⟨.callsign, fun _ _ => rfl⟩, ⟨.repinfo, fun _ _ => rfl⟩⟩

/-- Settles O33: BULK has no head (R197). -/
theorem bulkStartsWithNoOutput : Obligations.BulkStartsWithNoOutput := by
  intro row hrow len s p he hen hp
  obtain ⟨k, hexec⟩ := exec_bulkRows row hrow
  exact exec_eq_started_of_legal (hexec len s) (by simp) (lenOf_append _ _) he hen hp

/-- Settles O34: NOP has no head (R193). -/
theorem nopStartsWithNoOutput : Obligations.NopStartsWithNoOutput := by
  intro kind len s p he hen hp
  rw [← commandWord_eq_append]
  exact exec_eq_started_of_legal (d := .nop) rfl (by simp) (lenOf_commandWord _ _ _) he hen hp

/-- Settles O35: the head of PREAMBLE, family by family (R97, R199). -/
theorem preambleOutputsTwiceTheFrameLength : Obligations.PreambleOutputsTwiceTheFrameLength := by
  intro s p he hen hp
  have hpre : (if p.family = .f8 then 0xB5 else 0xED) = preByte p.family := by
    cases p.family <;> rfl
  rw [hpre]
  exact exec_eq_started_of_legal (d := .preamble) rfl (by simp) rfl he hen hp

/-- Settles O36: the head of END_MARKER (R200). -/
theorem endMarkerOutputsPatternAndFiller : Obligations.EndMarkerOutputsPatternAndFiller :=
  fun _ _ he hen hp => exec_eq_started_of_legal (d := .endMarker) rfl (by simp) rfl he hen hp

/-- The illegal rows of OP 1 and 2 start an illegal command (R88). -/
theorem exec_illegalKindRows : ∀ row ∈ Claims.illegalKindRows,
    ∀ len s, exec (row.1 len) s = startCommand .illegal (row.2 ++ len) s := by
  simp only [Claims.illegalKindRows, List.forall_mem_cons, List.not_mem_nil, IsEmpty.forall_iff,
    implies_true, and_true,
    ← commandWord_eq_append_byte]
  and_intros <;> intros <;> rfl

/-- Settles O37, row by row. -/
theorem illegalKindRaisesCmdError : Obligations.IllegalKindRaisesCmdError :=
  fun row hrow len s _ he hen hp =>
    exec_eq_started_of_illegal (exec_illegalKindRows row hrow len s) (lenOf_append _ _) he hen hp

/-- The other illegal rows start an illegal command (R88, R90). -/
theorem exec_illegalOpRows : ∀ row ∈ Claims.illegalOpRows,
    ∀ kind len s, exec (row.1 kind len) s = startCommand .illegal (row.2 ++ kind ++ len) s := by
  simp only [Claims.illegalOpRows, List.forall_mem_cons, List.not_mem_nil, IsEmpty.forall_iff,
    implies_true, and_true,
    ← commandWord_eq_append]
  and_intros <;> intros <;> rfl

/-- Settles O38, row by row. -/
theorem illegalOpRaisesCmdError : Obligations.IllegalOpRaisesCmdError :=
  fun row hrow kind len s _ he hen hp =>
    exec_eq_started_of_illegal (exec_illegalOpRows row hrow kind len s) (lenOf_append _ _) he hen hp

/-! A busy engine's own steps -/

theorem ownTurn_tx_of_busy {s : State} {j : TxJob} (he : s.tx.engine = .busy j) :
    ownTurn .tx s = s.txContinue j := by
  simp only [ownTurn, he]

/-- A TX turn of a busy engine is spent on the engine's own step (R192). -/
theorem step_tx_of_busy {s : State} {j : TxJob} {rest : List Turn}
    (hs : s.env.schedule = .tx :: rest) (he : s.tx.engine = .busy j) :
    step s = State.txContinue j { s with env := { s.env with schedule := rest } } := by
  simp only [step, fetch, hs, he, ownTurn, State.dropTurn, List.tail_cons]

section Continue

variable {s : State} {j : TxJob} {b : Byte} {l : List Byte}

/-- TX-OUT (R215). -/
theorem txContinue_out (ho : j.outList = b :: l) (hr : s.env.sinkReady = true) :
    s.txContinue j = .next (s.txOut j b l) := by
  simp only [State.txContinue, ho, hr, if_true]

/-- The hold on the sink (R215). -/
theorem txContinue_sinkHold (ho : j.outList = b :: l) (hr : s.env.sinkReady = false) :
    s.txContinue j = .next s := by
  simp only [State.txContinue, ho, hr, Bool.false_eq_true, if_false]

/-- TX-END (R202). -/
theorem txContinue_end (ho : j.outList = []) (hn : j.need = 0) :
    s.txContinue j = .next s.txEnd := by
  simp only [State.txContinue, ho, hn, if_true]

/-- TX-TAKE (R196). -/
theorem txContinue_take {p : Profile} (ho : j.outList = []) (hn : 0 < j.need)
    (hq : s.tx.payQueue = b :: l) (hp : profileAt s.build j.latched = some p) :
    s.txContinue j = .next (s.txTake j p b l) := by
  simp only [State.txContinue, ho, hn.ne', hq, hp, if_false]

/-- The hold on the payload queue (R196). -/
theorem txContinue_payloadHold (ho : j.outList = []) (hn : 0 < j.need)
    (hq : s.tx.payQueue = []) : s.txContinue j = .next s := by
  simp only [State.txContinue, ho, hn.ne', hq, if_false]

end Continue

/-- Settles O40: the turn is TX-OUT, or the hold on the sink. -/
theorem txOutOffersTheFirstByteOrHolds : Obligations.TxOutOffersTheFirstByteOrHolds :=
  fun _ _ _ _ _ hs he ho =>
    ⟨fun hr => (step_tx_of_busy hs he).trans (txContinue_out ho hr),
      fun hr => (step_tx_of_busy hs he).trans (txContinue_sinkHold ho hr)⟩

/-- Settles O41: the turn is TX-TAKE, or the hold on the payload queue. -/
theorem txTakeTakesOnePayloadByteOrHolds : Obligations.TxTakeTakesOnePayloadByteOrHolds :=
  fun _ _ _ _ hs he ho hn hp =>
    ⟨fun _ _ hq => (step_tx_of_busy hs he).trans (txContinue_take ho hn hq hp),
      fun hq => (step_tx_of_busy hs he).trans (txContinue_payloadHold ho hn hq)⟩

/-- STATUS bit 1 is TX_BUSY (R37). -/
theorem getLsbD_one_statusValue (s : State) :
    (statusValue s).getLsbD 1 = s.tx.engine.isBusy := by
  simp [statusValue, fieldAt]

/-- Settles O42. -/
theorem txEndMakesTheEngineIdle : Obligations.TxEndMakesTheEngineIdle :=
  fun s _ he ho hn => ⟨s.txEnd, (ownTurn_tx_of_busy he).trans (txContinue_end ho hn), rfl,
    getLsbD_one_statusValue s.txEnd⟩

/-- Settles O44: no test of a busy engine's step reads TX_EN, and none of its results writes it. -/
theorem txEnGatesOnlyTheStart : Obligations.TxEnGatesOnlyTheStart := by
  refine ⟨fun s j v he => ?_, fun s c hen => exec_cmd_held (.inl hen) c⟩
  rw [ownTurn_tx_of_busy he,
    ownTurn_tx_of_busy (s := { s with ctl := { s.ctl with txEn := v } }) he]
  unfold State.txContinue
  cases j.outList with
  | cons b l => cases s.env.sinkReady <;> rfl
  | nil =>
    by_cases hn : j.need = 0
    · simp only [if_pos hn]
      rfl
    · simp only [if_neg hn]
      cases s.tx.payQueue with
      | nil => rfl
      | cons b l => cases profileAt s.build j.latched <;> rfl

/-! A running command -/

/-- The engine is Idle, or Busy with the word and the latched profile of `j` (R191). -/
def TxEngine.EndsOrKeeps (j : TxJob) (e : TxEngine) : Prop :=
  e = .idle ∨ ∃ j', e = .busy j' ∧ j'.latched = j.latched ∧ j'.cmd = j.cmd

theorem TxEngine.endsOrKeeps_self (j : TxJob) : (TxEngine.busy j).EndsOrKeeps j :=
  .inr ⟨j, rfl, rfl, rfl⟩

theorem txContinue_endsOrKeeps {j : TxJob} {s t : State} (he : s.tx.engine = .busy j)
    (h : s.txContinue j = .next t) : t.tx.engine.EndsOrKeeps j := by
  rcases txContinue_cases h with rfl | ⟨b, l, -, -, rfl⟩ | ⟨-, -, rfl⟩
    | ⟨b, l, p, -, -, -, -, rfl⟩
  · exact he ▸ TxEngine.endsOrKeeps_self j
  · exact .inr ⟨_, rfl, rfl, rfl⟩
  · exact .inl rfl
  · exact .inr ⟨_, rfl, rfl, rfl⟩

theorem execObserveBit_tx {sym : Byte} {s t : State} (h : execObserveBit sym s = .next t) :
    t.tx = s.tx := by
  rcases execObserveBit_cases h with ⟨-, rfl⟩ | ⟨-, r, -, rfl⟩ <;> rfl

theorem execWrTxProfile_engine {v : Word} {s t : State} (h : execWrTxProfile v s = .next t) :
    t.tx.engine = s.tx.engine := by
  unfold execWrTxProfile at h
  split at h <;> obtain rfl := Host.Outcome.next.inj h <;> rfl

theorem execWrRxProfile_tx {v : Word} {s t : State} (h : execWrRxProfile v s = .next t) :
    t.tx = s.tx := by
  unfold execWrRxProfile at h
  split at h <;> obtain rfl := Host.Outcome.next.inj h <;> rfl

/-- The host reaches the queues and TX_PROFILE, never the engine (R231 to R239). -/
theorem exec_host_engine {op : HostOp} {s t : State} (h : exec (decodeHost op) s = .next t) :
    t.tx.engine = s.tx.engine := by
  rcases exec_host_cases h with rfl | rfl | ⟨v, rfl⟩ | ⟨v, -, h⟩ | ⟨v, -, h⟩ | ⟨v, -, h⟩
    | ⟨v, -, h⟩ | ⟨c, -, -, rfl⟩ | ⟨b, -, -, rfl⟩ | ⟨e, rest, -, -, rfl⟩
  · rfl
  · rfl
  · rfl
  · obtain rfl := Host.Outcome.next.inj h
    rfl
  · rw [execWrRxProfile_tx h]
  · exact execWrTxProfile_engine h
  · obtain rfl := Host.Outcome.next.inj h
    rfl
  · rfl
  · rfl
  · rfl

theorem offerSymbol_tx (s : State) : s.offerSymbol.tx = s.tx := by
  unfold State.offerSymbol
  split <;> rfl

/-- Settles O43: only the engine's own turn and reset touch a busy engine. -/
theorem aRunningCommandKeepsItsProfile : Obligations.ARunningCommandKeepsItsProfile := by
  intro s t j he h
  change t.tx.engine.EndsOrKeeps j
  have kept : t.tx.engine = s.tx.engine → t.tx.engine.EndsOrKeeps j := fun hk => by
    rw [hk, he]
    exact TxEngine.endsOrKeeps_self j
  rcases step_cases h with ⟨-, h⟩ | ⟨_, _, -, -, h⟩ | ⟨_, _, _, -, hidle, -, -⟩
    | ⟨_, j', -, he', h⟩ | ⟨_, _, _, -, -, h⟩ | ⟨_, -, h⟩ | ⟨_, _, -, h⟩ | ⟨_, -, h⟩ | ⟨-, h⟩
  · obtain rfl := Host.Outcome.next.inj h
    exact kept rfl
  · exact kept (congrArg TxState.engine (execObserveBit_tx (s := s.dropTurn) h.symm))
  · rw [he] at hidle
    cases hidle
  · obtain rfl := TxEngine.busy.inj (he.symm.trans he')
    exact txContinue_endsOrKeeps (s := s.dropTurn) he h.symm
  · exact kept (exec_host_engine (s := s.dropTurn) h.symm)
  · obtain rfl := Host.Outcome.next.inj h
    exact kept (congrArg TxState.engine (offerSymbol_tx s.dropTurn))
  · obtain rfl := Host.Outcome.next.inj h
    exact kept rfl
  · obtain rfl := Host.Outcome.next.inj h
    exact .inl rfl
  · obtain rfl := Host.Outcome.next.inj h
    exact kept rfl

/-! The output of a command -/

/-- The bodies of the payload bytes `payload`, the first of which is number `j` (R196). -/
def bodies (d : TxCmd) (p : Profile) : Nat → List Byte → List Byte
  | _, [] => []
  | j, b :: rest => cmdBody d p j b ++ bodies d p (j + 1) rest

/-- What an engine offers for the bytes `payload` it has still to take, the last of `len` (R196). -/
def remainingOutput (d : TxCmd) (p : Profile) (len : Nat) : List Byte → List Byte
  | [] => []
  | b :: rest => takeOutput d p len (rest.length + 1) b ++ remainingOutput d p len rest

/-- The bodies of the bytes left, and the tail after the last of them. -/
theorem remainingOutput_eq (d : TxCmd) (p : Profile) {len : Nat} {payload : List Byte}
    (hlen : payload.length ≤ len) :
    remainingOutput d p len payload
      = bodies d p (len - payload.length) payload
        ++ (if payload = [] then [] else cmdTail d p len) := by
  induction payload with
  | nil => rfl
  | cons b rest ih =>
    rw [List.length_cons] at hlen
    have hnext : len - (rest.length + 1) + 1 = len - rest.length := by omega
    rw [remainingOutput, ih (Nat.le_of_succ_le hlen), takeOutput, List.length_cons, bodies, hnext]
    cases rest <;> simp [bodies]

/-- The whole of a command's output: its head, its bodies and its tail (R193 to R201). -/
theorem cmdHead_append_remainingOutput (d : TxCmd) (p : Profile) (payload : List Byte) :
    cmdHead d p ++ remainingOutput d p payload.length payload
      = cmdHead d p ++ bodies d p 0 payload ++ cmdTail d p payload.length := by
  rw [remainingOutput_eq d p (Nat.le_refl _), Nat.sub_self, List.append_assoc]
  split
  · rename_i h
    rw [h, List.length_nil, cmdTail_zero]
  · rfl

theorem bodies_append (d : TxCmd) (p : Profile) (j : Nat) (xs ys : List Byte) :
    bodies d p j (xs ++ ys) = bodies d p j xs ++ bodies d p (j + xs.length) ys := by
  induction xs generalizing j with
  | nil => rfl
  | cons x xs ih =>
    rw [List.cons_append, bodies, ih, bodies, List.append_assoc, List.length_cons,
      Nat.add_right_comm j 1, ← Nat.add_assoc]

/-- Commands without a body offer nothing for the payload (R193, R199 to R201). -/
theorem bodies_of_silent {d : TxCmd} {p : Profile} (h : ∀ j b, cmdBody d p j b = [])
    (j : Nat) (payload : List Byte) : bodies d p j payload = [] := by
  induction payload generalizing j with
  | nil => rfl
  | cons b rest ih => rw [bodies, h, ih, List.append_nil]

/-- FRAME passes the payload unchanged (R194). -/
theorem bodies_frame (k : TxKind) (p : Profile) (j : Nat) (payload : List Byte) :
    bodies (.frame k) p j payload = payload := by
  induction payload generalizing j with
  | nil => rfl
  | cons b rest ih => rw [bodies, ih, cmdBody, List.singleton_append]

/-- Inside a chunk BULK passes the payload unchanged (R197). -/
theorem bodies_bulk_of_inside {k : TxKind} {p : Profile} {j : Nat} {bytes : List Byte}
    (hj : j % p.payloadBytes ≠ 0) (hfit : j % p.payloadBytes + bytes.length ≤ p.payloadBytes) :
    bodies (.bulk k) p j bytes = bytes := by
  induction bytes generalizing j with
  | nil => rfl
  | cons b rest ih =>
    rw [List.length_cons] at hfit
    have hrest : bodies (.bulk k) p (j + 1) rest = rest := by
      cases rest with
      | nil => rfl
      | cons b' rest' =>
        rw [List.length_cons] at hfit
        have hnext : (j + 1) % p.payloadBytes = j % p.payloadBytes + 1 := by
          rw [Nat.add_mod_eq_add_mod_right 1 (Nat.mod_mod j p.payloadBytes).symm]
          exact Nat.mod_eq_of_lt (by omega)
        exact ih (by omega) (by rw [List.length_cons]; omega)
    rw [bodies, hrest, cmdBody, if_neg hj, List.nil_append, List.singleton_append]

/-- A chunk of BULK is its Prefix and its bytes (R197). -/
theorem bodies_bulk_of_chunk {k : TxKind} {p : Profile} {j : Nat} {bytes : List Byte}
    (hj : j % p.payloadBytes = 0) (hne : bytes ≠ []) (hfit : bytes.length ≤ p.payloadBytes) :
    bodies (.bulk k) p j bytes = framePrefix k p.family ++ bytes := by
  cases bytes with
  | nil => exact absurd rfl hne
  | cons b rest =>
    rw [List.length_cons] at hfit
    have hrest : bodies (.bulk k) p (j + 1) rest = rest := by
      cases rest with
      | nil => rfl
      | cons b' rest' =>
        rw [List.length_cons] at hfit
        have hnext : (j + 1) % p.payloadBytes = 1 := by
          rw [Nat.add_mod, hj, Nat.zero_add, Nat.mod_mod]
          exact Nat.mod_eq_of_lt (by omega)
        exact bodies_bulk_of_inside (by omega) (by rw [hnext, List.length_cons]; omega)
    rw [bodies, hrest, cmdBody, if_pos hj, List.append_assoc, List.singleton_append]

/-- The number of chunks of a payload that is not empty: one, and those of the rest. -/
theorem chunkCount_succ {n fl : Nat} (hfl : 0 < fl) (hn : 0 < n) :
    (n + fl - 1) / fl = (n - fl + fl - 1) / fl + 1 := by
  rcases Nat.le_total n fl with h | h
  · rw [Nat.sub_eq_zero_of_le h, Nat.zero_add, Nat.div_eq_of_lt (Nat.sub_lt hfl Nat.one_pos),
      show n + fl - 1 = n - 1 + fl by omega, Nat.add_div_right _ hfl,
      Nat.div_eq_of_lt (by omega)]
  · rw [show n + fl - 1 = n - fl + fl - 1 + fl by omega, Nat.add_div_right _ hfl]

/-- The closed form of BULK, from the start of any chunk (R197, R198). -/
theorem bodies_bulk_append_cmdTail {k : TxKind} {p : Profile} (hfl : 0 < p.payloadBytes) {j : Nat}
    (hj : j % p.payloadBytes = 0) (payload : List Byte) :
    bodies (.bulk k) p j payload ++ cmdTail (.bulk k) p payload.length
      = bulkFrames (framePrefix k p.family) p.payloadBytes
          ((payload.length + p.payloadBytes - 1) / p.payloadBytes) payload := by
  induction hn : payload.length using Nat.strong_induction_on generalizing j payload with
  | _ n ih =>
    subst hn
    by_cases hne : payload = []
    · subst hne
      rw [List.length_nil, cmdTail_zero, Nat.zero_add, Nat.div_eq_of_lt (by omega)]
      rfl
    · have hpos := List.length_pos_iff.mpr hne
      rw [chunkCount_succ hfl hpos, bulkFrames]
      rcases Nat.lt_or_ge p.payloadBytes payload.length with h | h
      · have hlen : (payload.take p.payloadBytes).length = p.payloadBytes :=
          List.length_take_of_le h.le
        have htake : payload.take p.payloadBytes ≠ [] :=
          List.ne_nil_of_length_pos (hfl.trans_eq hlen.symm)
        have hbodies : bodies (.bulk k) p j payload
            = framePrefix k p.family ++ payload.take p.payloadBytes
              ++ bodies (.bulk k) p (j + p.payloadBytes) (payload.drop p.payloadBytes) := by
          conv_lhs => rw [← List.take_append_drop p.payloadBytes payload]
          rw [bodies_append, bodies_bulk_of_chunk hj htake hlen.le, hlen]
        have htail : cmdTail (.bulk k) p payload.length
            = cmdTail (.bulk k) p (payload.length - p.payloadBytes) := by
          simp only [cmdTail, Nat.mod_eq_sub_mod h.le]
        have hrest := ih _ (Nat.sub_lt hpos hfl) (j := j + p.payloadBytes)
          (by rw [Nat.add_mod_right, hj]) (payload.drop p.payloadBytes) List.length_drop
        rw [hbodies, htail, List.append_assoc, hrest, Nat.sub_eq_zero_of_le h.le,
          List.replicate_zero, List.append_nil]
      · have htail : cmdTail (.bulk k) p payload.length
            = List.replicate (p.payloadBytes - payload.length) 0x00 := by
          rcases h.lt_or_eq with h | h
          · simp only [cmdTail, Nat.mod_eq_of_lt h, if_neg hpos.ne']
          · simp [cmdTail, h]
        rw [bodies_bulk_of_chunk hj hne h, htail, Nat.sub_eq_zero_of_le h, Nat.zero_add,
          Nat.div_eq_of_lt (Nat.sub_lt hfl Nat.one_pos), List.take_of_length_le h, bulkFrames,
          List.append_nil]

/-- A command's head, bodies and tail are its output in closed form (R193 to R201). -/
theorem cmdHead_bodies_cmdTail (d : TxCmd) {p : Profile} (hfl : 0 < p.payloadBytes)
    (payload : List Byte) :
    cmdHead d p ++ bodies d p 0 payload ++ cmdTail d p payload.length
      = commandOutput d p payload := by
  cases d with
  | nop | illegal =>
    rw [bodies_of_silent fun _ _ => rfl]
    rfl
  | frame k =>
    rw [bodies_frame]
    exact List.append_nil _
  | bulk k => exact bodies_bulk_append_cmdTail hfl (Nat.zero_mod _) payload
  | preamble =>
    rw [bodies_of_silent fun _ _ => rfl]
    cases hf : p.family <;> simp [cmdHead, cmdTail, commandOutput, preByte, hf]
  | endMarker =>
    rw [bodies_of_silent fun _ _ => rfl]
    simp [cmdHead, cmdTail, commandOutput, endPattern, endFiller]

/-! A whole command -/

/-- Some number of TX turns takes `s` to `u`. -/
def RunsTo (s u : State) : Prop := ∃ n, txTurns n s = .next u

theorem RunsTo.refl (s : State) : RunsTo s s := ⟨0, rfl⟩

theorem RunsTo.of_txContinue {j : TxJob} {s t u : State} (he : s.tx.engine = .busy j)
    (h : s.txContinue j = .next t) (hu : RunsTo t u) : RunsTo s u := by
  obtain ⟨n, hn⟩ := hu
  refine ⟨n + 1, ?_⟩
  simp only [txTurns, ownTurn_tx_of_busy he, h, hn]

/-- `s` after the sink has accepted the whole output list of `j`. -/
def State.txOffered (j : TxJob) (s : State) : State :=
  { s with
    tx := { s.tx with engine := .busy { j with outList := [] } }
    env := { s.env with sinkBytes := s.env.sinkBytes ++ j.outList } }

theorem State.txOffered_of_nil {j : TxJob} {s : State} (he : s.tx.engine = .busy j)
    (ho : j.outList = []) : s.txOffered j = s := by
  have hj : { j with outList := [] } = j := by rw [← ho]
  rw [State.txOffered, hj, ← he, ho, List.append_nil]

theorem State.txOffered_txOut {j : TxJob} {b : Byte} {l : List Byte} (ho : j.outList = b :: l)
    (s : State) : (s.txOut j b l).txOffered { j with outList := l } = s.txOffered j := by
  simp [State.txOffered, State.txOut, ho]

/-- A ready sink gets the whole output list, byte by byte (R215). -/
theorem RunsTo.of_txOffered {j : TxJob} {s u : State} (he : s.tx.engine = .busy j)
    (hr : s.env.sinkReady = true) (hu : RunsTo (s.txOffered j) u) : RunsTo s u := by
  induction hout : j.outList generalizing j s with
  | nil => rwa [State.txOffered_of_nil he hout] at hu
  | cons b l ih =>
    rw [← State.txOffered_txOut hout] at hu
    exact .of_txContinue he (txContinue_out hout hr) (ih rfl hr hu rfl)

/-- `s` after its command has ended, with `out` offered and `more` left of the payload queue. -/
def State.txDone (out more : List Byte) (s : State) : State :=
  { s with
    tx := { s.tx with engine := .idle, payQueue := more }
    env := { s.env with sinkBytes := s.env.sinkBytes ++ out } }

/-- A busy engine with a ready sink, and the bytes it needs in the queue, runs to its end (R192,
R196, R202, R215). -/
theorem runsTo_txDone {p : Profile} {more : List Byte} (payload : List Byte) {j : TxJob}
    {s : State} (he : s.tx.engine = .busy j) (hr : s.env.sinkReady = true)
    (hp : profileAt s.build j.latched = some p) (hq : s.tx.payQueue = payload ++ more)
    (hn : j.need = payload.length) :
    RunsTo s (s.txDone (j.outList
      ++ remainingOutput (TxCmd.ofWord j.cmd) p (lenOf j.cmd).toNat payload) more) := by
  induction payload generalizing j s with
  | nil =>
    refine .of_txOffered he hr (.of_txContinue rfl (txContinue_end rfl hn) ?_)
    have hdone : (s.txOffered j).txEnd = s.txDone (j.outList ++ []) more := by
      simp [State.txOffered, State.txEnd, State.txDone, hq]
    exact hdone ▸ .refl _
  | cons b rest ih =>
    refine .of_txOffered he hr
      (.of_txContinue rfl (txContinue_take rfl (hn ▸ Nat.succ_pos _) hq hp) ?_)
    have hrest := ih (s := (s.txOffered j).txTake { j with outList := [] } p b (rest ++ more))
      rfl hr hp rfl (by rw [hn]; rfl)
    have hdone : s.txDone (j.outList ++ remainingOutput (TxCmd.ofWord j.cmd) p
          (lenOf j.cmd).toNat (b :: rest)) more
        = ((s.txOffered j).txTake { j with outList := [] } p b (rest ++ more)).txDone
          (takeOutput (TxCmd.ofWord j.cmd) p (lenOf j.cmd).toNat j.need b
            ++ remainingOutput (TxCmd.ofWord j.cmd) p (lenOf j.cmd).toNat rest) more := by
      simp [State.txOffered, State.txTake, State.txDone, remainingOutput, hn]
    exact hdone ▸ hrest

/-- Settles O45: TX-START, the run to the end, and the run's output in closed form. -/
theorem aCommandRunsToItsEndWithItsClosedFormOutput :
    Obligations.ACommandRunsToItsEndWithItsClosedFormOutput := by
  intro c s p payload more hb he hen hr hp hq hlen
  have hfl := one_le_payloadBytes (profileValid_of_build hb (profileAt_mem hp))
  have hstart := startCommand_eq_started (d := TxCmd.ofWord c) (c := c) he hen hp
  obtain ⟨n, hrun⟩ := runsTo_txDone (more := more) payload (p := p)
    (s := { Claims.started s c (lenOf c) (cmdHead (TxCmd.ofWord c) p) with
      ctl := if TxCmd.ofWord c = .illegal then { s.ctl with cmdErr := true, errInfo := c }
        else s.ctl }) rfl hr hp hq hlen.symm
  refine ⟨_, n, _, (exec_decodeCommand c s).trans hstart, hrun, rfl, ?_, rfl, rfl, rfl, rfl, rfl,
    rfl⟩
  rw [← cmdHead_bodies_cmdTail _ hfl, ← cmdHead_append_remainingOutput, hlen]
  rfl

/-! Finding sync in a bit sequence -/

/-- The register after one more received bit (R123). -/
def shiftIn (sr : BitVec 24) (b : Bool) : BitVec 24 := (sr <<< 1) ||| (BitVec.ofBool b).setWidth 24

theorem shiftRegister_takeBit (b : Bool) (r : RxState) :
    (r.takeBit b).shiftRegister = shiftIn r.shiftRegister b := rfl

/-- From register value `sr` the detector finds kind `k` on the last of the bits, and nothing before
(R124 to R126). -/
def SyncsOn (fam : Family) (k : FrameKind) : BitVec 24 → List Bool → Prop
  | _, [] => False
  | sr, [b] => matchKind (shiftIn sr b) fam = k
  | sr, b :: rest =>
    matchKind (shiftIn sr b) fam = .none ∧ SyncsOn fam k (shiftIn sr b) rest

theorem feed_cons {sym : Byte} {rest : List Byte} {s s' : State}
    (h : exec (.observeBit sym) s = .next s') : feed (sym :: rest) s = feed rest s' := by
  rw [feed, h]

/-- A feed that answers a next state did so at its first symbol. -/
theorem exists_exec_of_feed_cons {sym : Byte} {rest : List Byte} {s t : State}
    (h : feed (sym :: rest) s = .next t) :
    ∃ s', exec (.observeBit sym) s = .next s' ∧ feed rest s' = .next t := by
  rw [feed] at h
  cases hx : exec (.observeBit sym) s with
  | next s' => exact ⟨s', rfl, by rwa [hx] at h⟩
  | fault | refused =>
    rw [hx] at h
    cases h

theorem feed_append {xs ys : List Byte} {s t : State} (h : feed xs s = .next t) :
    feed (xs ++ ys) s = feed ys t := by
  induction xs generalizing s with
  | nil =>
    obtain rfl := Host.Outcome.next.inj h
    rfl
  | cons sym rest ih =>
    obtain ⟨s', hexec, hrest⟩ := exists_exec_of_feed_cons h
    rw [List.cons_append, feed_cons hexec, ih hrest]

theorem feed_keeps_inv {syms : List Byte} {s t : State} (hi : Inv s)
    (h : feed syms s = .next t) : Inv t := by
  induction syms generalizing s with
  | nil =>
    obtain rfl := Host.Outcome.next.inj h
    exact hi
  | cons sym rest ih =>
    obtain ⟨s', hexec, hrest⟩ := exists_exec_of_feed_cons h
    exact ih (execObserveBit_keeps_inv hi hexec) hrest

theorem symbolsOf_append (xs ys : List Byte) :
    symbolsOf (xs ++ ys) = symbolsOf xs ++ symbolsOf ys := by
  simp [symbolsOf]

/-- `t` is `s` after its detector found kind `k` (R126): a frame of that kind starts, and what the
dispatcher reads of the rest is unchanged. -/
structure FoundSync (k : FrameKind) (s t : State) : Prop where
  synced : t.rx.syncFound = true
  kind : t.rx.currentFrameKind = k
  index : t.rx.bitIndex = 0
  profile : t.rx.rxProfile = s.rx.rxProfile
  last : t.rx.lastFrameKind = s.rx.lastFrameKind
  queue : t.rx.eventQueue = s.rx.eventQueue
  build : t.build = s.build
  ctl : t.ctl = s.ctl

/-- `s` after it took the bit `b` without a sync match (R122, R123, R127). -/
def State.shifted (b : Bool) (s : State) : State :=
  { s with rx := s.rx.takeBit b, env := { s.env with rxPort := none } }

section Unsync

variable {s : State} {p : Profile} {b : Bool}
  (hen : s.ctl.rxEn = true) (hroom : s.rx.eventQueue.length + 3 ≤ s.build.evtDepth)
  (hp : profileAt s.build s.rx.rxProfile = some p) (hs : s.rx.syncFound = false)

include hen hroom hp hs

theorem exec_symbolOf_of_unsync (b : Bool) :
    exec (.observeBit (symbolOf b)) s = .next { s with
      rx := (s.rx.takeBit b).detect p.family, env := { s.env with rxPort := none } } := by
  have ho := observe_unsync (relayEn := s.ctl.relayEn) (sym := symbolOf b) hp hs
  rw [symbolBit_symbolOf] at ho
  exact exec_observeBit_of_observe hen hroom ho

theorem exec_symbolOf_of_noMatch (hk : matchKind (shiftIn s.rx.shiftRegister b) p.family = .none) :
    exec (.observeBit (symbolOf b)) s = .next (s.shifted b) := by
  rw [exec_symbolOf_of_unsync hen hroom hp hs, detect_eq,
    shiftRegister_takeBit, if_pos hk]
  rfl

theorem exec_symbolOf_of_match {k : FrameKind} (hne : k ≠ .none)
    (hk : matchKind (shiftIn s.rx.shiftRegister b) p.family = k) :
    ∃ t, exec (.observeBit (symbolOf b)) s = .next t ∧ FoundSync k s t := by
  refine ⟨_, exec_symbolOf_of_unsync hen hroom hp hs b, ?_⟩
  rw [detect_eq, shiftRegister_takeBit, if_neg (hk ▸ hne)]
  exact ⟨rfl, hk, rfl, rfl, rfl, rfl, rfl, rfl⟩

/-- Feeding the bits on which the detector finds kind `k` starts a frame of that kind. -/
theorem feed_of_syncsOn {k : FrameKind} (hne : k ≠ .none) {bits : List Bool}
    (h : SyncsOn p.family k s.rx.shiftRegister bits) :
    ∃ t, feed (bits.map symbolOf) s = .next t ∧ FoundSync k s t := by
  induction bits generalizing s with
  | nil => exact h.elim
  | cons b rest ih =>
    cases rest with
    | nil =>
      obtain ⟨t, hexec, hfound⟩ := exec_symbolOf_of_match hen hroom hp hs hne h
      refine ⟨t, ?_, hfound⟩
      exact feed_cons hexec
    | cons b' rest' =>
      obtain ⟨hnone, hrest⟩ := h
      obtain ⟨t, hfeed, hfound⟩ := ih (s := s.shifted b) hen hroom hp hs hrest
      refine ⟨t, ?_, hfound.synced, hfound.kind, hfound.index, hfound.profile, hfound.last,
        hfound.queue, hfound.build, hfound.ctl⟩
      exact (feed_cons (exec_symbolOf_of_noMatch hen hroom hp hs hnone)).trans hfeed

end Unsync

/-! A frame's round trip -/

/-- The bytes of FRAME's output on which the receiver synchronises: the Prefix, of which the STD
Voice pattern does not hold the start marker (R85, R95). -/
def syncBytes (k : TxKind) (fam : Family) : List Byte :=
  if fam = .std ∧ k = .voice then [0xED, 0x89] else framePrefix k fam

/-- The bytes the receiver collects: on STD the Voice frame has the start marker in front (R207). -/
def collectedBytes (k : TxKind) (fam : Family) (payload : List Byte) : List Byte :=
  if fam = .std ∧ k = .voice then 0xAA :: payload else payload

theorem syncBytes_append_collectedBytes (k : TxKind) (p : Profile) (payload : List Byte) :
    syncBytes k p.family ++ collectedBytes k p.family payload
      = commandOutput (.frame k) p payload := by
  unfold syncBytes collectedBytes
  split
  · rename_i h
    obtain ⟨hf, rfl⟩ := h
    simp [commandOutput, framePrefix, hf]
  · rfl


/-- A clear receiver finds the frame's kind on the last bit of its sync bytes (R85, R125). -/
theorem syncsOn_syncBytes {k : TxKind} {fam : Family} (hf8 : fam = .f8 → k = .voice)
    (hhigh : fam = .high → k = .data) :
    SyncsOn fam (Claims.kindOfTx k) 0 ((syncBytes k fam).flatMap bitsOfByte) := by
  cases fam with
  | f8 =>
    obtain rfl := hf8 rfl
    and_intros <;> rfl
  | std => cases k <;> and_intros <;> rfl
  | high =>
    obtain rfl := hhigh rfl
    and_intros <;> rfl

theorem kindOfTx_eq_voice_iff (k : TxKind) : Claims.kindOfTx k = .voice ↔ k = .voice := by
  cases k <;> decide

/-- The collected bytes fill the target of the frame's kind (R141, R207). -/
theorem length_collectedBytes {k : TxKind} {p : Profile} {payload : List Byte}
    (hf8 : p.family = .f8 → k = .voice) (hhigh : p.family = .high → k = .data)
    (hlen : payload.length = if k = .voice then p.payloadBytes else p.payloadBytes - 1) :
    8 * (collectedBytes k p.family payload).length = target (Claims.kindOfTx k) p := by
  cases hf : p.family with
  | f8 =>
    obtain rfl := hf8 hf
    simp [collectedBytes, target, hf, hlen, Nat.mul_comm]
  | std =>
    by_cases hk : k = .voice <;>
      simp [collectedBytes, target, hf, hlen, hk, kindOfTx_eq_voice_iff, Nat.mul_comm,
        Nat.add_one_mul, Nat.sub_one_mul]
  | high =>
    obtain rfl := hhigh hf
    simp [collectedBytes, target, hf, hlen, kindOfTx_eq_voice_iff, Nat.mul_comm, Nat.sub_one_mul]

theorem kindOfTx_ne_none (k : TxKind) : Claims.kindOfTx k ≠ .none := by
  cases k <;> decide

theorem kindOfTx_ne_endOfTx (k : TxKind) : Claims.kindOfTx k ≠ .endOfTx := by
  cases k <;> decide

/-- Settles O31: the receiver finds sync on the last bit of the sync bytes, and collects the rest as
one frame, which `aFrameIsCapturedWhole` delivers. -/
theorem aFramedPayloadRoundTrips : Obligations.AFramedPayloadRoundTrips := by
  intro s p k payload hi hen hroom hp hf8 hhigh hs hsr hlen
  have hlocks := syncsOn_syncBytes hf8 hhigh
  rw [← hsr] at hlocks
  obtain ⟨t, hfeed, hfound⟩ := feed_of_syncsOn hen hroom hp hs (kindOfTx_ne_none k) hlocks
  have hlen' := length_collectedBytes hf8 hhigh hlen
  rw [← hfound.kind] at hlen'
  obtain ⟨u, hrest, hqueue, hsync, hreg, hlast, -, -⟩ :=
    aFrameIsCapturedWhole t p (collectedBytes k p.family payload) (feed_keeps_inv hi hfeed)
      (by rwa [hfound.ctl]) (by rwa [hfound.queue, hfound.build])
      (by rwa [hfound.build, hfound.profile]) hfound.synced hfound.index hlen'
  rw [hfound.kind, hfound.last] at hqueue hlast
  rw [hfound.queue, hfound.ctl] at hqueue
  rw [if_neg (kindOfTx_ne_endOfTx k)] at hlast
  refine ⟨u, ?_, hqueue, hsync, hreg, hlast⟩
  rw [← syncBytes_append_collectedBytes, symbolsOf_append]
  exact (feed_append hfeed).trans hrest

end Sys2Proof.Machine

/-!
PROOFS. The host's side of the block (44_host_control.md): what the register reads return (R230),
what the writes do and what they ignore (R231 to R238), the stream operations (R239), and what any
host operation leaves of the agents outside the block.
-/
namespace Sys2Proof.Machine

open Sys2Proof

/-! Fields of a word -/

/-- A field reads back from where it was placed. -/
theorem extractLsb'_fieldAt_same {w lo : Nat} (x : BitVec w) (h : lo + w ≤ 32) :
    (fieldAt lo x).extractLsb' lo w = x := by
  apply BitVec.eq_of_getLsbD_eq
  intro i hi
  simp [fieldAt, hi, show lo + i < 32 by omega]

/-- A field that fits the word keeps its value, shifted. -/
theorem toNat_fieldAt {w lo : Nat} (x : BitVec w) (h : lo + w ≤ 32) :
    (fieldAt lo x).toNat = x.toNat <<< lo := by
  have hx : x.toNat <<< lo < 2 ^ 32 := calc
    x.toNat <<< lo = x.toNat * 2 ^ lo := Nat.shiftLeft_eq _ _
    _ < 2 ^ w * 2 ^ lo := Nat.mul_lt_mul_of_pos_right x.isLt (Nat.two_pow_pos lo)
    _ = 2 ^ (lo + w) := by rw [Nat.pow_add, Nat.mul_comm]
    _ ≤ 2 ^ 32 := Nat.pow_le_pow_right Nat.two_pos h
  rw [fieldAt, BitVec.toNat_shiftLeft, BitVec.toNat_setWidth_of_le (by omega),
    Nat.mod_eq_of_lt hx]

/-- A field leaves the bits outside it 0. -/
theorem extractLsb'_fieldAt_of_disjoint {w lo start len : Nat} (x : BitVec w)
    (h : lo + w ≤ start ∨ start + len ≤ lo) : (fieldAt lo x).extractLsb' start len = 0 := by
  apply BitVec.eq_of_getLsbD_eq
  intro i hi
  rcases h with h | h
  · have hx := BitVec.getLsbD_of_ge x (start + i - lo) (by omega)
    simp [fieldAt, hx]
  · simp [fieldAt, show start + i < lo by omega]

/-! Register views -/

/-- R34. -/
theorem ctrlValue_toNat (c : Control) :
    (ctrlValue c).toNat = c.rxEn.toNat + 2 * c.txEn.toNat + 4 * c.relayEn.toNat := by
  unfold ctrlValue
  cases c.rxEn <;> cases c.txEn <;> cases c.relayEn <;> rfl

/-- STATUS bits 0, 2 and 3 (R37); bit 1 is `getLsbD_one_statusValue`. -/
theorem statusValue_bits (s : State) :
    (statusValue s).getLsbD 0 = s.rx.syncFound ∧ (statusValue s).getLsbD 2 = s.ctl.cfgErr
      ∧ (statusValue s).getLsbD 3 = s.ctl.cmdErr := by
  simp [statusValue, fieldAt]

/-- STATUS bits 7:4 (R37). -/
theorem statusValue_currentKind (s : State) :
    (statusValue s).extractLsb' 4 4 = kindCode s.rx.currentFrameKind := by
  simp [statusValue, BitVec.extractLsb'_or, extractLsb'_fieldAt_same,
    extractLsb'_fieldAt_of_disjoint]

/-- STATUS bits 11:8 (R37). -/
theorem statusValue_lastKind (s : State) :
    (statusValue s).extractLsb' 8 4 = kindCode s.rx.lastFrameKind := by
  simp [statusValue, BitVec.extractLsb'_or, extractLsb'_fieldAt_same,
    extractLsb'_fieldAt_of_disjoint]

/-- STATUS bits 31:12 are reserved (R37). -/
theorem statusValue_reserved (s : State) : (statusValue s).extractLsb' 12 20 = 0 := by
  simp [statusValue, BitVec.extractLsb'_or, extractLsb'_fieldAt_of_disjoint]

/-- R32. -/
theorem TxEngine.isBusy_iff (e : TxEngine) : e.isBusy = true ↔ ∃ j, e = .busy j := by
  cases e <;> simp [TxEngine.isBusy]

/-- The families in the order of their codes (R42). -/
theorem getElem?_familyCode (fam : Family) :
    [Family.f8, .std, .high][(familyCode fam).toNat]? = some fam := by
  cases fam <;> rfl

/-- The family code stands right above the 16 bits of the payload size, which every entry of a valid
table fits (R10, R11, R42). -/
theorem geomValue_toNat {p : Profile} (h : profileValid p = true) :
    (geomValue p).toNat = (familyCode p.family).toNat * 2 ^ 16 + p.payloadBytes := by
  obtain ⟨hmax, -⟩ := (profileValid_iff_bounds p).mp h
  have hn : p.payloadBytes < 2 ^ 16 := by omega
  have hlow : (BitVec.ofNat 16 p.payloadBytes).toNat = p.payloadBytes := Nat.mod_eq_of_lt hn
  rw [geomValue, BitVec.toNat_or, toNat_fieldAt _ (by decide), toNat_fieldAt _ (by decide), hlow,
    Nat.shiftLeft_zero, ← Nat.shiftLeft_eq, Nat.shiftLeft_add_eq_or_of_lt hn, Nat.lor_comm]

/-- R42, for an entry of a valid table. -/
theorem geomValue_fields {p : Profile} (h : profileValid p = true) :
    (geomValue p).toNat % 2 ^ 16 = p.payloadBytes
      ∧ [Family.f8, .std, .high][(geomValue p).toNat / 2 ^ 16]? = some p.family := by
  obtain ⟨hmax, -⟩ := (profileValid_iff_bounds p).mp h
  have hv := geomValue_toNat h
  have hfam : (geomValue p).toNat / 2 ^ 16 = (familyCode p.family).toNat := by omega
  exact ⟨by omega, by rw [hfam, getElem?_familyCode]⟩

/-! Reads -/

/-- Settles O46, register by register: CTRL bit by bit, the narrower registers zero-extended. -/
theorem plainReadsReturnTheirFields : Obligations.PlainReadsReturnTheirFields := by
  intro s
  exact ⟨⟨_, rfl, ctrlValue_toNat s.ctl⟩,
    ⟨_, rfl, BitVec.toNat_setWidth_of_le (by decide)⟩,
    ⟨_, rfl, BitVec.toNat_setWidth_of_le (by decide)⟩,
    ⟨_, rfl, BitVec.toNat_setWidth_of_le (by decide)⟩,
    ⟨_, rfl, BitVec.toNat_setWidth_of_le (by decide)⟩,
    ⟨_, rfl, BitVec.toNat_setWidth_of_le (by decide)⟩,
    ⟨_, rfl, rfl⟩⟩

/-- Settles O47: the fields of `statusValue`, one by one. -/
theorem statusReadReturnsItsFields : Obligations.StatusReadReturnsItsFields := by
  intro s
  obtain ⟨hsync, hcfg, hcmd⟩ := statusValue_bits s
  refine ⟨statusValue s, rfl, hsync, ?_, hcfg, hcmd, ?_, ?_, statusValue_reserved s⟩
  · rw [getLsbD_one_statusValue, TxEngine.isBusy_iff]
  · rw [statusValue_currentKind, getElem?_kindCode]
  · rw [statusValue_lastKind, getElem?_kindCode]

theorem execRdRxGeom_of_profile {s : State} {p : Profile}
    (hp : profileAt s.build s.rx.rxProfile = some p) :
    execRdRxGeom s = .next (s.hostReturn (geomValue p)) := by
  simp only [execRdRxGeom, hp]

theorem execRdTxGeom_of_profile {s : State} {p : Profile}
    (hp : profileAt s.build s.tx.txProfile = some p) :
    execRdTxGeom s = .next (s.hostReturn (geomValue p)) := by
  simp only [execRdTxGeom, hp]

/-- Settles O48: each read shows its profile's geometry, an entry of a valid table. -/
theorem geometryReadsShowTheSelectedProfile :
    Obligations.GeometryReadsShowTheSelectedProfile := by
  intro s p q hb hp hq
  exact ⟨⟨_, execRdRxGeom_of_profile hp,
      geomValue_fields (profileValid_of_build hb (profileAt_mem hp))⟩,
    ⟨_, execRdTxGeom_of_profile hq,
      geomValue_fields (profileValid_of_build hb (profileAt_mem hq))⟩⟩

/-- Settles O50: every access with direction bit 0 is a read row. -/
theorem noReadChangesTheBlock : Obligations.NoReadChangesTheBlock := by
  intro idx data s t h
  simp only [decode, decodeHost, decodeAccess_read] at h
  exact exec_read_cases h

/-! Writes -/

/-- Settles O51: bit 8 chooses between the old RX state and the host sync reset. -/
theorem writeCtrlSetsEnablesAndRestarts : Obligations.WriteCtrlSetsEnablesAndRestarts := by
  intro v s
  refine ⟨_, rfl, rfl, fun h => ?_, fun h => ?_, rfl, rfl⟩
  · exact if_neg (Bool.eq_false_iff.mp h)
  · exact if_pos h

/-- The index of a profile write is legal when its low byte is below NPROF (R234 to R236). -/
theorem legalIndex_writtenIndex_iff (b : Build) (v : Word) :
    legalIndex b (writtenIndex v) = true ↔ v.toNat % 256 < b.profiles.length := by
  rw [legalIndex, decide_eq_true_iff]
  simp [writtenIndex]

theorem execWrRxProfile_of_legal {v : Word} {s : State}
    (h : v.toNat % 256 < s.build.profiles.length) :
    execWrRxProfile v s = .next
      { s with rx := { s.rx with rxProfile := writtenIndex v }.hostSyncReset }.hostDone :=
  if_pos ((legalIndex_writtenIndex_iff s.build v).mpr h)

theorem execWrRxProfile_of_illegal {v : Word} {s : State}
    (h : s.build.profiles.length ≤ v.toNat % 256) :
    execWrRxProfile v s = .next (s.raiseError .cfgError v).hostDone :=
  if_neg ((legalIndex_writtenIndex_iff s.build v).not.mpr (Nat.not_lt_of_le h))

theorem execWrTxProfile_of_legal {v : Word} {s : State}
    (h : v.toNat % 256 < s.build.profiles.length) :
    execWrTxProfile v s = .next
      { s with tx := { s.tx with txProfile := writtenIndex v } }.hostDone :=
  if_pos ((legalIndex_writtenIndex_iff s.build v).mpr h)

theorem execWrTxProfile_of_illegal {v : Word} {s : State}
    (h : s.build.profiles.length ≤ v.toNat % 256) :
    execWrTxProfile v s = .next (s.raiseError .cfgError v).hostDone :=
  if_neg ((legalIndex_writtenIndex_iff s.build v).not.mpr (Nat.not_lt_of_le h))

/-- Raising CfgError sets its bit and ERR_INFO, and no more of the block (R253). -/
theorem sameBlock_raiseError_cfg (v : Word) (s : State) :
    Claims.sameBlock { s with ctl := { s.ctl with cfgErr := true, errInfo := v } }
      (s.raiseError .cfgError v).hostDone := ⟨rfl, rfl, rfl, rfl⟩

/-- Settles O52: the reset starts from the engine with the new index, equal to the old or not. -/
theorem legalRxProfileWriteResetsSync : Obligations.LegalRxProfileWriteResetsSync :=
  fun _ _ h => ⟨_, execWrRxProfile_of_legal h, rfl, rfl, rfl, rfl⟩

/-- Settles O53: the illegal index only raises CfgError. -/
theorem illegalRxProfileWriteRaisesCfgError : Obligations.IllegalRxProfileWriteRaisesCfgError :=
  fun v s h => ⟨_, execWrRxProfile_of_illegal h, sameBlock_raiseError_cfg v s⟩

/-- Settles O54: the index is legal or it is not. -/
theorem writeTxProfileTakesTheIndexOrRaisesCfgError :
    Obligations.WriteTxProfileTakesTheIndexOrRaisesCfgError := by
  intro v s
  rcases Nat.lt_or_ge (v.toNat % 256) s.build.profiles.length with h | h
  · exact ⟨_, execWrTxProfile_of_legal h, fun _ => ⟨rfl, rfl, rfl, rfl⟩,
      fun h' => absurd h (Nat.not_lt_of_le h')⟩
  · exact ⟨_, execWrTxProfile_of_illegal h, fun h' => absurd h' (Nat.not_lt_of_le h),
      fun _ => sameBlock_raiseError_cfg v s⟩

/-- Settles O55: a written 1 clears its bit, a written 0 keeps it. -/
theorem writeStatusClearsTheBitsWrittenOne :
    Obligations.WriteStatusClearsTheBitsWrittenOne := by
  intro v s
  have clears (old bit : Bool) : (old && !bit) = if bit then false else old := by
    cases bit <;> simp
  exact ⟨_, rfl, clears _ _, clears _ _, rfl, rfl, rfl, rfl, rfl, rfl, rfl⟩

/-- Only CTRL, the two profiles and STATUS take a write (R238). -/
theorem exec_writeRow_ignored {r : HostReg} (h : 4 ≤ r.index.toNat) (v : Word) (s : State) :
    exec (writeRow v r) s = .next s.hostDone := by
  cases r with
  | ctrl | rxProfile | txProfile | status => exact absurd h (by decide)
  | _ => rfl

/-- Settles O56: an index of 4 or more selects a register that ignores writes. -/
theorem readOnlyAndReservedWritesAreIgnored :
    Obligations.ReadOnlyAndReservedWritesAreIgnored := by
  intro idx v s h
  rw [← index_ofIndex idx] at h
  simp only [decode, decodeHost, decodeAccess_write]
  exact ⟨_, exec_writeRow_ignored h v s, rfl, rfl, rfl, rfl⟩

/-! Outside the block -/

/-- From `s` to `t` one host operation was done, and `reads` and `events` reached the host. -/
def HostTook (reads : List Word) (events : List Event) (s t : State) : Prop :=
  t.build = s.build ∧ (events = [] ∨ s.rx.eventQueue = events ++ t.rx.eventQueue)
    ∧ t.env = { s.env with
        hostProg := s.env.hostProg.tail
        hostReads := s.env.hostReads ++ reads
        hostEvents := s.env.hostEvents ++ events }

theorem hostTook_nothing {s t : State} (hb : t.build = s.build) (he : t.env = s.hostDone.env) :
    HostTook [] [] s t :=
  ⟨hb, .inl rfl, by rw [he, List.append_nil, List.append_nil]; rfl⟩

theorem hostTook_hostReturn (v : Word) (s : State) : HostTook [v] [] s (s.hostReturn v) :=
  ⟨rfl, .inl rfl, by rw [List.append_nil]; rfl⟩

theorem hostTook_popEvent {s : State} {e : Event} {rest : List Event}
    (hq : s.rx.eventQueue = e :: rest) : HostTook [] [e] s (s.popEvent e rest).hostDone :=
  ⟨rfl, .inr hq, by rw [List.append_nil]; rfl⟩

/-- A write brings the host nothing back (R231). -/
theorem hostTook_of_write {r : HostReg} {v : Word} {s t : State}
    (h : exec (writeRow v r) s = .next t) : HostTook [] [] s t := by
  rcases exec_write_cases h with ⟨-, h⟩ | ⟨-, h⟩ | ⟨-, h⟩ | ⟨-, h⟩ | rfl
  · obtain rfl := Host.Outcome.next.inj h
    exact hostTook_nothing rfl rfl
  · unfold execWrRxProfile at h
    split at h <;> obtain rfl := Host.Outcome.next.inj h <;> exact hostTook_nothing rfl rfl
  · unfold execWrTxProfile at h
    split at h <;> obtain rfl := Host.Outcome.next.inj h <;> exact hostTook_nothing rfl rfl
  · obtain rfl := Host.Outcome.next.inj h
    exact hostTook_nothing rfl rfl
  · exact hostTook_nothing rfl rfl

/-- Settles O57, by what a host operation can do. -/
theorem hostOperationsTouchOnlyTheHostOutsideTheBlock :
    Obligations.HostOperationsTouchOnlyTheHostOutsideTheBlock := by
  intro op s t h
  suffices took : t = s ∨ ∃ reads events, reads.length + events.length ≤ 1
      ∧ HostTook reads events s t by
    rcases took with rfl | ⟨reads, events, hlen, hb, hq, he⟩
    · exact ⟨rfl, .inl rfl⟩
    · exact ⟨hb, .inr ⟨reads, events, hlen, hq, he⟩⟩
  rcases exec_host_cases h with rfl | rfl | ⟨v, rfl⟩ | ⟨v, -, h⟩ | ⟨v, -, h⟩ | ⟨v, -, h⟩
    | ⟨v, -, h⟩ | ⟨c, -, -, rfl⟩ | ⟨b, -, -, rfl⟩ | ⟨e, rest, -, hq, rfl⟩
  · exact .inl rfl
  · exact .inr ⟨[], [], Nat.zero_le 1, hostTook_nothing rfl rfl⟩
  · exact .inr ⟨[v], [], Nat.le_refl 1, hostTook_hostReturn v s⟩
  · exact .inr ⟨[], [], Nat.zero_le 1, hostTook_of_write (r := .ctrl) h⟩
  · exact .inr ⟨[], [], Nat.zero_le 1, hostTook_of_write (r := .rxProfile) h⟩
  · exact .inr ⟨[], [], Nat.zero_le 1, hostTook_of_write (r := .txProfile) h⟩
  · exact .inr ⟨[], [], Nat.zero_le 1, hostTook_of_write (r := .status) h⟩
  · exact .inr ⟨[], [], Nat.zero_le 1, hostTook_nothing rfl rfl⟩
  · exact .inr ⟨[], [], Nat.zero_le 1, hostTook_nothing rfl rfl⟩
  · exact .inr ⟨[], [e], Nat.le_refl 1, hostTook_popEvent hq⟩

/-! Stream operations -/

theorem execPope_of_cons {s : State} {e : Event} {rest : List Event}
    (h : s.rx.eventQueue = e :: rest) : execPope s = .next (s.popEvent e rest).hostDone := by
  simp only [execPope, h]

theorem execPope_of_nil {s : State} (h : s.rx.eventQueue = []) : execPope s = .next s := by
  simp only [execPope, h]

/-- Settles O58: each operation's test, both ways. -/
theorem streamOperationsTakeEffectOrHold : Obligations.StreamOperationsTakeEffectOrHold :=
  fun _ _ _ => ⟨fun h => if_pos h, fun h => if_neg (Nat.not_lt_of_le h),
    fun h => if_pos h, fun h => if_neg (Nat.not_lt_of_le h),
    fun _ _ h => execPope_of_cons h, execPope_of_nil⟩

end Sys2Proof.Machine

/-!
PROOFS. Errors and stops (60_exceptions.md): no step stops under the invariant (R250, R28, R147,
R178), which steps change the error fields (R253, R256, R257), the RX step and the TX side (R262),
and the turns that run no item (R264).
-/
namespace Sys2Proof.Machine

open Sys2Proof

/-! The RX step, by readiness and outcome -/

theorem execObserveBit_of_not_ready {sym : Byte} {s : State} (h : s.rxReady = false) :
    execObserveBit sym s = .next s := by
  simp only [execObserveBit, h, Bool.false_eq_true, if_false]

theorem execObserveBit_of_ok {sym : Byte} {s : State} {r : RxState} (h : s.rxReady = true)
    (ho : s.rx.observe s.build s.ctl.relayEn sym = .ok r) :
    execObserveBit sym s = .next { s with rx := r, env := { s.env with rxPort := none } } := by
  simp only [execObserveBit, h, ho, if_true]

theorem execObserveBit_of_error {sym : Byte} {s : State} {f : Fault} (h : s.rxReady = true)
    (ho : s.rx.observe s.build s.ctl.relayEn sym = .error f) :
    execObserveBit sym s = .fault f := by
  simp only [execObserveBit, h, ho, if_true]

/-- Settles O29: whether the engine is ready, and what it then observes, read neither side. -/
theorem theRxStepIgnoresTheTxSide : Obligations.TheRxStepIgnoresTheTxSide := by
  intro sym s tx txEn cfg cmd info
  simp only [exec]
  cases hr : s.rxReady with
  | false =>
    rw [execObserveBit_of_not_ready hr]
    exact execObserveBit_of_not_ready hr
  | true =>
    cases ho : s.rx.observe s.build s.ctl.relayEn sym with
    | ok r =>
      rw [execObserveBit_of_ok hr ho]
      exact execObserveBit_of_ok hr ho
    | error f =>
      rw [execObserveBit_of_error hr ho]
      exact execObserveBit_of_error hr ho

/-! No step stops -/

/-- Under the invariant a frame's next bit fits the buffer, and a frame that completes has a kind
(R147, R178). -/
theorem exists_observe_eq_ok {s : State} (hi : Inv s) (hr : s.rxReady = true) (sym : Byte) :
    ∃ r, s.rx.observe s.build s.ctl.relayEn sym = .ok r := by
  have ⟨_, hrx, _⟩ := hi
  obtain ⟨p, hp⟩ := profileAt_of_rxOk hrx
  cases hs : s.rx.syncFound with
  | false => exact ⟨_, observe_unsync hp hs⟩
  | true =>
    obtain ⟨hen, hroom⟩ := (rxReady_iff s).mp hr
    have hf := inFrame_of_inv hi hen hroom hp hs
    by_cases ht : (s.rx.bitIndex + 1).toNat = target s.rx.currentFrameKind p
    · exact ⟨_, observe_complete hp hs hf.kind hf.index_lt_capMax ht⟩
    · exact ⟨_, observe_store hp hs hf.index_lt_capMax ht⟩

theorem exists_execObserveBit_eq_next {s : State} (hi : Inv s) (sym : Byte) :
    ∃ t, execObserveBit sym s = .next t := by
  cases hr : s.rxReady with
  | false => exact ⟨s, execObserveBit_of_not_ready hr⟩
  | true =>
    obtain ⟨r, ho⟩ := exists_observe_eq_ok hi hr sym
    exact ⟨_, execObserveBit_of_ok hr ho⟩

theorem exists_startCommand_eq_next {s : State} (hi : Inv s) (d : TxCmd) (c : Word) :
    ∃ t, startCommand d c s = .next t := by
  obtain ⟨-, -, hidx, -⟩ := hi
  obtain ⟨p, hp⟩ := (legalIndex_iff s.build s.tx.txProfile).mp hidx
  cases hr : s.txReady with
  | false => exact ⟨s, startCommand_held hr⟩
  | true => exact ⟨_, startCommand_ready hr hp⟩

/-- A running command finds the profile it latched (R191). -/
theorem exists_txContinue_eq_next {s : State} {j : TxJob} (hi : Inv s)
    (he : s.tx.engine = .busy j) : ∃ t, s.txContinue j = .next t := by
  obtain ⟨-, -, htx⟩ := hi
  obtain ⟨-, -, -, hjob⟩ := (txOk_busy_iff he).mp htx
  obtain ⟨p, hp⟩ := profileAt_of_jobOk hjob
  cases ho : j.outList with
  | cons b l =>
    cases hk : s.env.sinkReady with
    | true => exact ⟨_, txContinue_out ho hk⟩
    | false => exact ⟨_, txContinue_sinkHold ho hk⟩
  | nil =>
    rcases Nat.eq_zero_or_pos j.need with hn | hn
    · exact ⟨_, txContinue_end ho hn⟩
    · cases hq : s.tx.payQueue with
      | nil => exact ⟨_, txContinue_payloadHold ho hn hq⟩
      | cons b l => exact ⟨_, txContinue_take ho hn hq hp⟩

/-- Only the two geometry reads look up a profile, and both of the block's are legal
(R28, R42, R43). -/
theorem exists_exec_readRow_eq_next {s : State} (hi : Inv s) (r : HostReg) :
    ∃ t, exec (readRow r) s = .next t := by
  obtain ⟨-, hrx, hidx, -⟩ := hi
  cases r with
  | rxGeom =>
    obtain ⟨p, hp⟩ := profileAt_of_rxOk hrx
    exact ⟨_, execRdRxGeom_of_profile hp⟩
  | txGeom =>
    obtain ⟨p, hp⟩ := (legalIndex_iff s.build s.tx.txProfile).mp hidx
    exact ⟨_, execRdTxGeom_of_profile hp⟩
  | _ => exact ⟨_, rfl⟩

/-- A write answers a next state from every state: an illegal index is an error, not a stop
(R250). -/
theorem exists_exec_writeRow_eq_next (v : Word) (r : HostReg) (s : State) :
    ∃ t, exec (writeRow v r) s = .next t := by
  have hidx := Nat.lt_or_ge (v.toNat % 256) s.build.profiles.length
  cases r with
  | rxProfile =>
    rcases hidx with h | h
    · exact ⟨_, execWrRxProfile_of_legal h⟩
    · exact ⟨_, execWrRxProfile_of_illegal h⟩
  | txProfile =>
    rcases hidx with h | h
    · exact ⟨_, execWrTxProfile_of_legal h⟩
    · exact ⟨_, execWrTxProfile_of_illegal h⟩
  | _ => exact ⟨_, rfl⟩

theorem exists_exec_host_eq_next {s : State} (hi : Inv s) (op : HostOp) :
    ∃ t, exec (decodeHost op) s = .next t := by
  cases op with
  | access w v =>
    simp only [decodeHost, decodeAccess]
    split
    · exact exists_exec_writeRow_eq_next v _ s
    · exact exists_exec_readRow_eq_next hi _
  | pushc c =>
    simp only [decodeHost, exec, execPushc]
    split <;> exact ⟨_, rfl⟩
  | pushb b =>
    simp only [decodeHost, exec, execPushb]
    split <;> exact ⟨_, rfl⟩
  | pope =>
    cases hq : s.rx.eventQueue with
    | nil => exact ⟨_, execPope_of_nil hq⟩
    | cons e rest => exact ⟨_, execPope_of_cons hq⟩

/-- Settles O6, turn by turn. -/
theorem noStepStopsUnderTheInvariant : Obligations.NoStepStopsUnderTheInvariant := by
  intro s hi
  have hd : Inv s.dropTurn := hi
  rcases step_cases (s := s) rfl with ⟨-, h⟩ | ⟨_, sym, -, -, h⟩ | ⟨_, c, _, -, -, -, h⟩
    | ⟨_, j, -, he, h⟩ | ⟨_, op, _, -, -, h⟩ | ⟨_, -, h⟩ | ⟨_, _, -, h⟩ | ⟨_, -, h⟩ | ⟨-, h⟩
  · exact ⟨_, h⟩
  · exact h ▸ exists_execObserveBit_eq_next hd sym
  · rw [h, exec_decodeCommand]
    exact exists_startCommand_eq_next hd _ c
  · exact h ▸ exists_txContinue_eq_next hd he
  · exact h ▸ exists_exec_host_eq_next hd op
  · exact ⟨_, h⟩
  · exact ⟨_, h⟩
  · exact ⟨_, h⟩
  · exact ⟨_, h⟩

/-! The error fields -/

/-- CFG_ERR, CMD_ERR and ERR_INFO are the same in both. -/
def Control.SameErrors (c c' : Control) : Prop :=
  c'.cfgErr = c.cfgErr ∧ c'.cmdErr = c.cmdErr ∧ c'.errInfo = c.errInfo

theorem Control.SameErrors.refl (c : Control) : c.SameErrors c := ⟨rfl, rfl, rfl⟩

theorem execObserveBit_ctl {sym : Byte} {s t : State} (h : execObserveBit sym s = .next t) :
    t.ctl = s.ctl := by
  rcases execObserveBit_cases h with ⟨-, rfl⟩ | ⟨-, r, -, rfl⟩ <;> rfl

/-- Only the start of an illegal command touches the control fields (R201). -/
theorem startCommand_ctl {d : TxCmd} {c : Word} {s t : State} (h : startCommand d c s = .next t) :
    t.ctl = s.ctl ∨ (d = .illegal ∧ t.ctl = s.ctl.raise .cmdError c) := by
  rcases startCommand_cases h with ⟨-, rfl⟩ | ⟨-, p, -, rfl⟩
  · exact .inl rfl
  · by_cases hd : d = .illegal
    · exact .inr ⟨hd, if_pos hd⟩
    · exact .inl (if_neg hd)

theorem txContinue_ctl {j : TxJob} {s t : State} (h : s.txContinue j = .next t) :
    t.ctl = s.ctl := by
  rcases txContinue_cases h with rfl | ⟨b, l, -, -, rfl⟩ | ⟨-, -, rfl⟩
    | ⟨b, l, p, -, -, -, -, rfl⟩ <;> rfl

theorem offerSymbol_ctl (s : State) : s.offerSymbol.ctl = s.ctl := by
  unfold State.offerSymbol
  split <;> rfl

/-- Only an illegal index touches the control fields (R235). -/
theorem execWrRxProfile_ctl {v : Word} {s t : State} (h : execWrRxProfile v s = .next t) :
    t.ctl = s.ctl
      ∨ (s.build.profiles.length ≤ v.toNat % 256 ∧ t.ctl = s.ctl.raise .cfgError v) := by
  rcases Nat.lt_or_ge (v.toNat % 256) s.build.profiles.length with hidx | hidx
  · obtain rfl := Host.Outcome.next.inj ((execWrRxProfile_of_legal hidx).symm.trans h)
    exact .inl rfl
  · obtain rfl := Host.Outcome.next.inj ((execWrRxProfile_of_illegal hidx).symm.trans h)
    exact .inr ⟨hidx, rfl⟩

/-- Only an illegal index touches the control fields (R236). -/
theorem execWrTxProfile_ctl {v : Word} {s t : State} (h : execWrTxProfile v s = .next t) :
    t.ctl = s.ctl
      ∨ (s.build.profiles.length ≤ v.toNat % 256 ∧ t.ctl = s.ctl.raise .cfgError v) := by
  rcases Nat.lt_or_ge (v.toNat % 256) s.build.profiles.length with hidx | hidx
  · obtain rfl := Host.Outcome.next.inj ((execWrTxProfile_of_legal hidx).symm.trans h)
    exact .inl rfl
  · obtain rfl := Host.Outcome.next.inj ((execWrTxProfile_of_illegal hidx).symm.trans h)
    exact .inr ⟨hidx, rfl⟩

/-- The host changes the error fields by an illegal profile write or a write to STATUS, and by no
other operation (R235 to R237). -/
theorem exec_host_errors {op : HostOp} {s t : State} (h : exec (decodeHost op) s = .next t) :
    s.ctl.SameErrors t.ctl
    ∨ (∃ w v, op = .access w v ∧ (w = 0x101 ∨ w = 0x102)
        ∧ s.build.profiles.length ≤ v.toNat % 256 ∧ t.ctl = s.ctl.raise .cfgError v)
    ∨ (∃ v, op = .access 0x103 v ∧ t.ctl = s.ctl.clearErrors v) := by
  have kept (hc : t.ctl = s.ctl) : s.ctl.SameErrors t.ctl := hc ▸ .refl _
  rcases exec_host_cases h with rfl | rfl | ⟨v, rfl⟩ | ⟨v, -, h⟩ | ⟨v, hop, h⟩ | ⟨v, hop, h⟩
    | ⟨v, hop, h⟩ | ⟨c, -, -, rfl⟩ | ⟨b, -, -, rfl⟩ | ⟨e, rest, -, -, rfl⟩
  · exact .inl (kept rfl)
  · exact .inl (kept rfl)
  · exact .inl (kept rfl)
  · obtain rfl := Host.Outcome.next.inj h
    exact .inl ⟨rfl, rfl, rfl⟩
  · rcases execWrRxProfile_ctl h with hc | ⟨hidx, hc⟩
    · exact .inl (kept hc)
    · exact .inr (.inl ⟨_, v, hop, .inl rfl, hidx, hc⟩)
  · rcases execWrTxProfile_ctl h with hc | ⟨hidx, hc⟩
    · exact .inl (kept hc)
    · exact .inr (.inl ⟨_, v, hop, .inr rfl, hidx, hc⟩)
  · obtain rfl := Host.Outcome.next.inj h
    exact .inr (.inr ⟨v, hop, rfl⟩)
  · exact .inl (kept rfl)
  · exact .inl (kept rfl)
  · exact .inl (kept rfl)

/-- Settles O60, turn by turn: TX-START, the host and reset are the three that can change them. -/
theorem errorFieldsChangeOnlyAsTheRulesSay : Obligations.ErrorFieldsChangeOnlyAsTheRulesSay := by
  intro s t h
  have kept (hc : t.ctl = s.ctl) : s.ctl.SameErrors t.ctl := hc ▸ .refl _
  rcases step_cases h with ⟨-, h⟩ | ⟨_, _, -, -, h⟩ | ⟨rest, c, cs, hs, he, hq, h⟩
    | ⟨_, _, -, -, h⟩ | ⟨rest, op, ops, hs, hp, h⟩ | ⟨_, -, h⟩ | ⟨_, _, -, h⟩ | ⟨rest, hs, h⟩
    | ⟨-, h⟩
  · obtain rfl := Host.Outcome.next.inj h
    exact .inl (kept rfl)
  · exact .inl (kept (execObserveBit_ctl (s := s.dropTurn) h.symm))
  · rcases startCommand_ctl ((exec_decodeCommand c _).symm.trans h.symm) with hc | ⟨hd, hc⟩
    · exact .inl (kept hc)
    · refine .inr (.inr (.inr (.inr ⟨rest, c, cs, hs, he, hq, hd, ?_⟩)))
      rw [hc]
      exact ⟨rfl, rfl, rfl⟩
  · exact .inl (kept (txContinue_ctl (s := s.dropTurn) h.symm))
  · rcases exec_host_errors h.symm with hc | ⟨w, v, rfl, hw, hidx, hc⟩ | ⟨v, rfl, hc⟩
    · exact .inl hc
    · refine .inr (.inr (.inl ⟨rest, w, v, ops, hs, hp, hw, hidx, ?_⟩))
      rw [hc]
      exact ⟨rfl, rfl, rfl⟩
    · refine .inr (.inr (.inr (.inl ⟨rest, v, ops, hs, hp, ?_⟩)))
      rw [hc]
      exact ⟨rfl, rfl, rfl⟩
  · obtain rfl := Host.Outcome.next.inj h
    exact .inl (kept (offerSymbol_ctl s.dropTurn))
  · obtain rfl := Host.Outcome.next.inj h
    exact .inl (kept rfl)
  · obtain rfl := Host.Outcome.next.inj h
    exact .inr (.inl ⟨rest, hs, rfl, rfl, rfl⟩)
  · obtain rfl := Host.Outcome.next.inj h
    exact .inl (kept rfl)

/-! Turns that run no item -/

/-- A turn with no item to run is the agent's own step, with the turn spent. -/
theorem step_of_fetch_none {s : State} {t : Turn} {rest : List Turn}
    (hs : s.env.schedule = t :: rest) (hf : fetch t s = none) :
    step s = ownTurn t { s with env := { s.env with schedule := rest } } := by
  simp [step, State.dropTurn, hs, hf]

theorem step_of_bitSource {s : State} {rest : List Turn}
    (hs : s.env.schedule = .bitSource :: rest) :
    step s = .next (State.offerSymbol { s with env := { s.env with schedule := rest } }) :=
  step_of_fetch_none hs rfl

theorem offerSymbol_of_port_taken {s : State} (h : s.env.rxPort.isSome = true) :
    s.offerSymbol = s := by
  obtain ⟨sym, hp⟩ := Option.isSome_iff_exists.mp h
  simp only [State.offerSymbol, hp]

theorem offerSymbol_of_no_symbols {s : State} (h : s.env.symbols = []) : s.offerSymbol = s := by
  cases hp : s.env.rxPort <;> simp only [State.offerSymbol, hp, h]

theorem offerSymbol_of_port_free {s : State} {sym : Byte} {syms : List Byte}
    (hp : s.env.rxPort = none) (h : s.env.symbols = sym :: syms) :
    s.offerSymbol = { s with env := { s.env with rxPort := some sym, symbols := syms } } := by
  simp only [State.offerSymbol, hp, h]

/-- Settles O16: an agent with nothing to do holds, and the bit source and the byte sink take their
own steps. -/
theorem turnsThatRunNoItem : Obligations.TurnsThatRunNoItem := by
  refine ⟨fun s hs => by simp only [step, hs], fun s t rest hs hidle => ?_,
    fun s rest sym syms hs hp hsym => ?_, fun s rest ready hs => step_of_fetch_none hs rfl⟩
  · rcases hidle with ⟨rfl, hp⟩ | ⟨rfl, he, hq⟩ | ⟨rfl, hp⟩ | ⟨rfl, hp⟩ | ⟨rfl, hsym⟩
    · exact step_of_fetch_none hs (by simp [fetch, hp])
    · rw [step_of_fetch_none hs (by simp [fetch, he, hq])]
      simp only [ownTurn, he]
    · exact step_of_fetch_none hs (by simp [fetch, hp])
    · exact (step_of_bitSource hs).trans (congrArg _ (offerSymbol_of_port_taken hp))
    · exact (step_of_bitSource hs).trans (congrArg _ (offerSymbol_of_no_symbols hsym))
  · exact (step_of_bitSource hs).trans (congrArg _ (offerSymbol_of_port_free hp hsym))

end Sys2Proof.Machine

/-!
PROOFS. The reset line (R280): a reset turn gives the block the fields of `State.resetWith` (R48) and
keeps the agents outside it.
-/
namespace Sys2Proof.Machine

theorem step_of_resetLine {s : State} {rest : List Turn}
    (hs : s.env.schedule = .resetLine :: rest) :
    step s = .next (State.blockReset { s with env := { s.env with schedule := rest } }) :=
  step_of_fetch_none hs rfl

/-- Settles O17: the block after a reset turn has the fields of a block just built, which O1 lists. -/
theorem theResetLineResetsTheBlockOnly : Obligations.TheResetLineResetsTheBlockOnly := by
  intro s rest hs
  obtain ⟨hrxProfile, htxProfile, hrxEn, htxEn, hrelayEn, hshift, hsync, hkind, hbit, hlast, hdiag,
    hevents, hcmds, hpay, hengine, hcfg, hcmd, hinfo⟩ :=
    resetLeavesEveryBlockFieldAtItsValue s.build
  exact ⟨_, step_of_resetLine hs, State.blockReset_build _, State.blockReset_env _,
    hevents, hcmds, hpay, hengine, hrxProfile, htxProfile, hrxEn, htxEn, hrelayEn,
    hcfg, hcmd, hinfo, hshift, hsync, hkind, hbit, hlast, hdiag⟩

end Sys2Proof.Machine
